-- ==== Sys2Proof/Word.lean ====
section
/-! DEFINITION. The word types of KV4P-FB: a byte of the streams and the 16-bit length register. -/

namespace Sys2Proof

/-- A byte: 8 bits, bit 7 most significant (20_memory.md R50, R58). -/
abbrev Byte := BitVec 8

/-- The 16-bit unsigned length register's value (10_state.md R23). -/
abbrev Half := BitVec 16

end Sys2Proof
end

