-- ==== Sys2Proof/Config.lean ====
section
/-! DEFINITION. The constants the source fixes (00_scope.md R8) and the three parameters it leaves open (R9). -/

namespace Sys2Proof

/-- The sync marker, first transmitted byte first (00_scope.md R8, 30_encoding.md R82). -/
def Config.sync : List Byte := [0xDE, 0xAD, 0xBE, 0xEF]

/-- Bytes before the payload: 4 sync, 1 code, 2 length (00_scope.md R8). -/
abbrev Config.hdrLen : Nat := 7

/-- The largest payload byte count (00_scope.md R8). -/
abbrev Config.maxPayload : Nat := 65535

/-- The open parameters of 00_scope.md R9, with the defaults that rule states.
`none` is the value `unbounded`. Log entry 4. -/
structure Params where
  /-- `INIT_CREDIT`, a non-negative integer (92_eei_decisions.md D7). -/
  initCredit : Nat := 1024
  /-- `CREDIT_W`, the width of the credit register in bits (D6). -/
  creditW : Option Nat := none
  /-- `SKIP_CAP`, the capacity of the skip buffer in bytes (D5). -/
  skipCap : Option Nat := none
deriving DecidableEq, Repr

end Sys2Proof
end

