-- ==== Sys2Proof/Syntax.lean ====
section
/-! DEFINITION. The frames of spec/opcode_table.json as one inductive, one constructor per row. The operand of every
frame is its payload (30_encoding.md R80, R85). -/

namespace Sys2Proof

/-- The two directions, which reuse code numbers (30_encoding.md R100, R104). -/
inductive Direction where
  | hostToDongle
  | dongleToHost
deriving DecidableEq, Repr

/-- One constructor per row of spec/opcode_table.json (30_encoding.md R101, R102). -/
inductive Instr where
  | cmdPttDown (p : List Byte)
  | cmdPttUp (p : List Byte)
  | cmdGroup (p : List Byte)
  | cmdFilters (p : List Byte)
  | cmdStop (p : List Byte)
  | cmdConfig (p : List Byte)
  | cmdTxAudio (p : List Byte)
  | cmdWindowUpdate (p : List Byte)
  | rspDebugInfo (p : List Byte)
  | rspDebugError (p : List Byte)
  | rspDebugWarning (p : List Byte)
  | rspDebugDebug (p : List Byte)
  | rspDebugTrace (p : List Byte)
  | rspHello (p : List Byte)
  | rspRxAudio (p : List Byte)
  | rspVersion (p : List Byte)
  | rspWindowUpdate (p : List Byte)
  | rspPhysPttDown (p : List Byte)
  | rspPhysPttUp (p : List Byte)
  | rspSmeterReport (p : List Byte)
deriving DecidableEq, Repr

/-- The payload of a frame. -/
def Instr.payload : Instr → List Byte
  | .cmdPttDown p => p
  | .cmdPttUp p => p
  | .cmdGroup p => p
  | .cmdFilters p => p
  | .cmdStop p => p
  | .cmdConfig p => p
  | .cmdTxAudio p => p
  | .cmdWindowUpdate p => p
  | .rspDebugInfo p => p
  | .rspDebugError p => p
  | .rspDebugWarning p => p
  | .rspDebugDebug p => p
  | .rspDebugTrace p => p
  | .rspHello p => p
  | .rspRxAudio p => p
  | .rspVersion p => p
  | .rspWindowUpdate p => p
  | .rspPhysPttDown p => p
  | .rspPhysPttUp p => p
  | .rspSmeterReport p => p

/-- The direction of a frame: commands go to the dongle, responses come from it (30_encoding.md R100). -/
def Instr.direction : Instr → Direction
  | .cmdPttDown _ => .hostToDongle
  | .cmdPttUp _ => .hostToDongle
  | .cmdGroup _ => .hostToDongle
  | .cmdFilters _ => .hostToDongle
  | .cmdStop _ => .hostToDongle
  | .cmdConfig _ => .hostToDongle
  | .cmdTxAudio _ => .hostToDongle
  | .cmdWindowUpdate _ => .hostToDongle
  | .rspDebugInfo _ => .dongleToHost
  | .rspDebugError _ => .dongleToHost
  | .rspDebugWarning _ => .dongleToHost
  | .rspDebugDebug _ => .dongleToHost
  | .rspDebugTrace _ => .dongleToHost
  | .rspHello _ => .dongleToHost
  | .rspRxAudio _ => .dongleToHost
  | .rspVersion _ => .dongleToHost
  | .rspWindowUpdate _ => .dongleToHost
  | .rspPhysPttDown _ => .dongleToHost
  | .rspPhysPttUp _ => .dongleToHost
  | .rspSmeterReport _ => .dongleToHost

end Sys2Proof
end

