-- ==== Sys2Proof/WellFormed.lean ====
section
/-! DEFINITION. The one check on a frame: its payload fits the 16-bit length field (10_state.md R23, 41_encoder.md R153).
No other length and no value is a condition of the format (41_encoder.md R155, 30_encoding.md R103). -/

namespace Sys2Proof

/-- A payload the length field can represent. -/
def payloadFits (p : List Byte) : Bool := decide (p.length ≤ Config.maxPayload)

/-- A frame of the format. -/
def Instr.wellFormed (i : Instr) : Bool := payloadFits i.payload

end Sys2Proof
end

