-- ==== Sys2Proof/Decode.lean ====
section
/-! DEFINITION. The code tables, the decoder of whole frames (total, rejecting by name) and the encoder, from
30_encoding.md and 41_encoder.md. The byte-by-byte decoder state machine DEC stands in Machine/Decoder.lean. -/

namespace Sys2Proof

/-- `le16` of 00_scope.md R15. -/
def le16 (b0 b1 : Byte) : Nat := b0.toNat + 256 * b1.toNat

/-- `le32` of 00_scope.md R15. -/
def le32 (b0 b1 b2 b3 : Byte) : Nat :=
  b0.toNat + 256 * b1.toNat + 65536 * b2.toNat + 16777216 * b3.toNat

/-- Bits 7 to 0 of a length (30_encoding.md R81, `len_lo`). -/
def lengthLo (n : Nat) : Byte := BitVec.ofNat 8 n

/-- Bits 15 to 8 of a length (30_encoding.md R81, `len_hi`). -/
def lengthHi (n : Nat) : Byte := BitVec.ofNat 8 (n / 256)

/-- The code byte of each row (30_encoding.md R101, R102). -/
def Instr.code : Instr → Byte
  | .cmdPttDown _ => 0x01
  | .cmdPttUp _ => 0x02
  | .cmdGroup _ => 0x03
  | .cmdFilters _ => 0x04
  | .cmdStop _ => 0x05
  | .cmdConfig _ => 0x06
  | .cmdTxAudio _ => 0x07
  | .cmdWindowUpdate _ => 0x08
  | .rspDebugInfo _ => 0x01
  | .rspDebugError _ => 0x02
  | .rspDebugWarning _ => 0x03
  | .rspDebugDebug _ => 0x04
  | .rspDebugTrace _ => 0x05
  | .rspHello _ => 0x06
  | .rspRxAudio _ => 0x07
  | .rspVersion _ => 0x08
  | .rspWindowUpdate _ => 0x09
  | .rspPhysPttDown _ => 0x44
  | .rspPhysPttUp _ => 0x55
  | .rspSmeterReport _ => 0x53

/-- The command table (30_encoding.md R101): the frame of a command code and a payload. -/
def commandOf (c : Byte) (p : List Byte) : Option Instr :=
  if c = 0x01 then some (.cmdPttDown p)
  else if c = 0x02 then some (.cmdPttUp p)
  else if c = 0x03 then some (.cmdGroup p)
  else if c = 0x04 then some (.cmdFilters p)
  else if c = 0x05 then some (.cmdStop p)
  else if c = 0x06 then some (.cmdConfig p)
  else if c = 0x07 then some (.cmdTxAudio p)
  else if c = 0x08 then some (.cmdWindowUpdate p)
  else none

/-- The response table (30_encoding.md R102): the frame of a response code and a payload. -/
def responseOf (c : Byte) (p : List Byte) : Option Instr :=
  if c = 0x01 then some (.rspDebugInfo p)
  else if c = 0x02 then some (.rspDebugError p)
  else if c = 0x03 then some (.rspDebugWarning p)
  else if c = 0x04 then some (.rspDebugDebug p)
  else if c = 0x05 then some (.rspDebugTrace p)
  else if c = 0x06 then some (.rspHello p)
  else if c = 0x07 then some (.rspRxAudio p)
  else if c = 0x08 then some (.rspVersion p)
  else if c = 0x09 then some (.rspWindowUpdate p)
  else if c = 0x44 then some (.rspPhysPttDown p)
  else if c = 0x55 then some (.rspPhysPttUp p)
  else if c = 0x53 then some (.rspSmeterReport p)
  else none

/-- The table of a direction (30_encoding.md R100: the two tables are separate and reuse numbers). -/
def frameOf (d : Direction) (c : Byte) (p : List Byte) : Option Instr :=
  match d with
  | .hostToDongle => commandOf c p
  | .dongleToHost => responseOf c p

/-- Why bytes are not the frame of a row: the decoder's rejections by name (log entry 19).
They are no outcome of the block, which receives every byte (40_decoder.md R134). -/
inductive DecodeError where
  /-- Fewer than the 7 header bytes (30_encoding.md R81). -/
  | shortHeader
  /-- The first four bytes are not the sync marker (R82). -/
  | noSync
  /-- Fewer payload bytes than the length field says (R84). -/
  | shortPayload
  /-- The code is in no row of the direction's table (R101 to R103). -/
  | unknownCode (c : Byte)
deriving DecidableEq, Repr

/-- The decoder's answer: a frame and the bytes after it, or a rejection by name. -/
inductive Decoded where
  | frame (i : Instr) (rest : List Byte)
  | rejected (why : DecodeError)
deriving DecidableEq, Repr

/-- Read one frame of a direction from the front of a byte sequence (30_encoding.md R80 to R87). -/
def decode (d : Direction) : List Byte → Decoded
  | s0 :: s1 :: s2 :: s3 :: c :: lo :: hi :: rest =>
    if [s0, s1, s2, s3] = Config.sync then
      if rest.length < le16 lo hi then .rejected .shortPayload
      else
        match frameOf d c (rest.take (le16 lo hi)) with
        | some i => .frame i (rest.drop (le16 lo hi))
        | none => .rejected (.unknownCode c)
    else .rejected .noSync
  | _ => .rejected .shortHeader

/-- The seven bytes of a frame with payload byte count `n` (30_encoding.md R81). -/
def header (c : Byte) (n : Nat) : List Byte :=
  Config.sync ++ [c, lengthLo n, lengthHi n]

/-- The bytes of 41_encoder.md R151, for a payload of at most 65535 bytes. -/
def frameBytes (c : Byte) (p : List Byte) : List Byte := header c p.length ++ p

/-- ENC: the wire bytes of a code and a payload (41_encoder.md R150, R151); not defined above 65535
payload bytes (R153). The code is not checked (R155). -/
def enc (c : Byte) (p : List Byte) : Option (List Byte) :=
  if payloadFits p then some (frameBytes c p) else none

/-- The total length of a frame (41_encoder.md R154). -/
def flen (p : List Byte) : Nat := Config.hdrLen + p.length

/-- The bytes of a well-formed frame, in transmission order. -/
def encode (i : Instr) : List Byte := frameBytes i.code i.payload

/-- A row's `match` word (30_encoding.md R86) with its length bytes put in: the 7 header bytes as one
56-bit number in transmission order. -/
def headerWord (c : Byte) (lo hi : Byte) : Nat :=
  0xDEADBEEF * 2 ^ 24 + c.toNat * 2 ^ 16 + lo.toNat * 2 ^ 8 + hi.toNat

/-- The byte at an offset of a 56-bit header word: bits 55 to 48 are offset 0 (30_encoding.md R81). -/
def wordByte (w k : Nat) : Byte := BitVec.ofNat 8 (w / 2 ^ (8 * (6 - k)))

/-- The bytes of the frame whose header is the 56-bit word `w` and whose payload is zeros: the header as the wire
carries it, then as many zero bytes as its length field says. Log entry 5. -/
def tableBytes (w : Nat) : List Byte :=
  (List.range 7).map (wordByte w) ++ List.replicate (le16 (wordByte w 5) (wordByte w 6)) 0

/-- The frame the decoder reads from a 56-bit header word of spec/opcode_table.json (30_encoding.md R86).
The word says no direction, and R86 asks for the direction first: the block decodes the dongle-to-host stream
only (R100), so this is the response table. Log entry 5. -/
def decodeTableWord (nbits w : Nat) : Option Instr :=
  if nbits = 56 then
    match decode .dongleToHost (tableBytes w) with
    | .frame i _ => some i
    | .rejected _ => none
  else none

/-- The same for the host-to-dongle table, whose words only ENC writes (30_encoding.md R100). -/
def decodeCommandWord (nbits w : Nat) : Option Instr :=
  if nbits = 56 then
    match decode .hostToDongle (tableBytes w) with
    | .frame i _ => some i
    | .rejected _ => none
  else none

end Sys2Proof
end

