-- ==== Sys2Proof/Machine/State.lean ====
section
/-! DEFINITION. The state of KV4P-FB as plain data (10_state.md), its reset, and the reasons a step can stop. -/

namespace Sys2Proof.Machine

/-- `DSTATE` (10_state.md R21). -/
inductive DState where
  | sync0
  | sync1
  | sync2
  | sync3
  | command
  | lenLo
  | lenHi
  | payload
deriving DecidableEq, Repr

/-- The classification tag of a `Frame` event (43_frame_codes.md R200). -/
inductive Cls where
  | ok
  | badLen
  | unknown
deriving DecidableEq, Repr

/-- One item of DEC's output on port `ev` (20_memory.md R51). -/
inductive Event where
  /-- `Skipped(bs)` (40_decoder.md R128). -/
  | skipped (bs : List Byte)
  /-- `Frame(c, p, cls)` (40_decoder.md R131). -/
  | frame (c : Byte) (p : List Byte) (cls : Cls)
deriving DecidableEq, Repr

/-- Why a `SEND` is rejected (41_encoder.md R152). -/
inductive Reject where
  | shutDown
  | tooLong
deriving DecidableEq, Repr

/-- The response of a `SEND` (00_scope.md R13 c). A held `SEND` has none yet. -/
inductive Response where
  | sent
  | rejected (why : Reject)
deriving DecidableEq, Repr

/-- A send request on port `send` (20_memory.md R51): any code, any payload. -/
structure Request where
  code : Byte
  payload : List Byte
deriving DecidableEq, Repr

/-- A request together with its response. -/
structure Answer where
  request : Request
  response : Response
deriving DecidableEq, Repr

/-- Who moves next (00_scope.md R10, R11; log entry 1). -/
inductive Turn where
  /-- RX offers the transport's next byte. -/
  | rx
  /-- TX presents its `k`-th waiting request. -/
  | tx (k : Nat)
  /-- The host takes back its `k`-th waiting request (41_encoder.md R152 d; log entry 15). -/
  | withdraw (k : Nat)
  /-- `SHUTDOWN_REQ` (60_exceptions.md R248). -/
  | shutdownReq
  /-- `RESET` (70_reset_and_hazards.md R260). -/
  | reset
deriving DecidableEq, Repr

/-- The state. The first seven fields are the block's whole architectural state (10_state.md R20). The others are
the MODEL's: the parameters of the block and of a run, and the outputs so far (log entries 1 to 4). -/
structure State where
  /-- Where in a frame the decoder is (R21). -/
  dstate : DState
  /-- The code byte of the frame being received (R22). -/
  cmd : Byte
  /-- The declared payload length of the frame being received (R23). -/
  len : Half
  /-- The payload bytes received so far (R24). -/
  pbuf : List Byte
  /-- Bytes skipped while resynchronizing, not yet reported (R25). -/
  skip : List Byte
  /-- The window credit in bytes (R26). -/
  credit : Int
  /-- The session-wide shutdown flag (R27). -/
  shutdown : Bool
  /-- The open parameters (00_scope.md R9), which no step writes. Log entry 4. -/
  params : Params
  /-- The RX bytes still in the transport, in arrival order (20_memory.md R52, R62). Log entry 2. -/
  rxIn : List Byte
  /-- The send requests that have no response, held ones included (10_state.md R33). Log entry 2. -/
  requests : List Request
  /-- The turns still to come (00_scope.md R11). Log entry 1. -/
  schedule : List Turn
  /-- The event trace, oldest first (00_scope.md R13 a). Log entry 3. -/
  events : List Event
  /-- The TX byte stream, oldest first (R13 b). Log entry 3. -/
  txOut : List Byte
  /-- The answered requests, oldest first (R13 c). Log entry 3. -/
  answers : List Answer
deriving DecidableEq, Repr

/-- The faults of the block: none. "A model gives the block no fault bit and no fault outcome"
(60_exceptions.md R230), so no step can raise one: safe. Log entry 14. -/
inductive Fault where
deriving DecidableEq, Repr

/-- Why a step has no meaning. -/
inductive Refusal where
  /-- Raised by an arm of `exec` whose instruction has no meaning in the model; no arm raises it. Safe. -/
  | notModelled (mnemonic : String)
  /-- Raised by the one operation that writes `CREDIT` when the exact result does not fit a FINITE `CREDIT_W`:
  "not specified ... A model treats such a step as refused" (42_flow_control.md R192, 93_implementation_defined.md U3).
  Never raised with the default `CREDIT_W`. Safe: nothing can be proved of such a step. Log entry 9. -/
  | creditOutOfRange
deriving DecidableEq, Repr

/-- The block right after reset, for given parameters, with no input waiting and no output made
(10_state.md R34). -/
def State.resetWith (params : Params) : State where
  dstate := .sync0
  cmd := 0
  len := 0
  pbuf := []
  skip := []
  credit := params.initCredit
  shutdown := false
  params := params
  rxIn := []
  requests := []
  schedule := []
  events := []
  txOut := []
  answers := []

/-- The machine right after reset, with the default parameters of 00_scope.md R9 (10_state.md R34). -/
def State.reset : State := State.resetWith ⟨1024, none, none⟩

end Sys2Proof.Machine
end

