-- ==== Sys2Proof/Machine/Flags.lean ====
section
/-! DEFINITION. The range of the credit register, the derived status outputs of 10_state.md R30, the readable ports, and the
classification tag of 43_frame_codes.md R200. The block has no flag register. -/

namespace Sys2Proof

/-- Does an exact credit fit the register? `unbounded` holds every integer; `W` bits hold the
two's-complement range (42_flow_control.md R187, R192). -/
def Params.creditFits (p : Params) (v : Int) : Bool :=
  match p.creditW with
  | none => true
  | some w => decide (-(2 : Int) ^ (w - 1) ≤ v) && decide (v < (2 : Int) ^ (w - 1))

/-- The parameter values the spec admits: `W ≥ 34` (42_flow_control.md R192), `SKIP_CAP ≥ 1`
(40_decoder.md R130), and an initial credit that the register holds (log entry 9). -/
def Params.legal (p : Params) : Bool :=
  (p.creditW.all fun w => decide (34 ≤ w)) &&
  (p.skipCap.all fun n => decide (1 ≤ n)) &&
  p.creditFits p.initCredit

end Sys2Proof

namespace Sys2Proof.Machine

/-- The number of a decoder state (10_state.md R21; the spec's decision D3). -/
def DState.num : DState → Nat
  | .sync0 => 0
  | .sync1 => 1
  | .sync2 => 2
  | .sync3 => 3
  | .command => 4
  | .lenLo => 5
  | .lenHi => 6
  | .payload => 7

/-- `IN_FRAME` (10_state.md R30). -/
def State.inFrame (s : State) : Bool := decide (4 ≤ s.dstate.num)

/-- `SEND_OK(n)` (10_state.md R30). -/
def State.sendOk (s : State) (n : Nat) : Bool :=
  !s.shutdown && decide (n ≤ Config.maxPayload) && decide ((Config.hdrLen + n : Int) ≤ s.credit)

/-- `SKIP_PENDING` (10_state.md R30). -/
def State.skipPending (s : State) : Bool := decide (1 ≤ s.skip.length)

/-- `PCNT` (10_state.md R24). -/
def State.pcnt (s : State) : Nat := s.pbuf.length

/-- A read of port `credit`: no side effect (20_memory.md R55, R60). -/
def State.creditPort (s : State) : Int := s.credit

/-- A host read of `SHUTDOWN` (10_state.md R31). -/
def State.shutdownPort (s : State) : Bool := s.shutdown

/-- The twelve response codes (43_frame_codes.md R200, R214). -/
def knownCodes : List Byte :=
  [0x01, 0x02, 0x03, 0x04, 0x05, 0x06, 0x07, 0x08, 0x09, 0x44, 0x53, 0x55]

/-- `classify(c, n)` (43_frame_codes.md R200). -/
def classify (c : Byte) (n : Nat) : Cls :=
  if c ∉ knownCodes then .unknown
  else if c = 0x08 ∧ n ≠ 8 then .badLen
  else if c = 0x09 ∧ n ≠ 4 then .badLen
  else if c = 0x53 ∧ n ≠ 1 then .badLen
  else .ok

end Sys2Proof.Machine
end

