-- ==== Sys2Proof/Machine/Operands.lean ====
section
/-! DEFINITION. The payload layouts of 30_encoding.md R91 to R98 as views of a payload, and the host calls of R106.
The block itself reads two of them, WINDOW_UPDATE and VERSION, for `CREDIT` (R90); the others are carried opaque
(R85) and their views serve a host that builds or reads payloads. -/

namespace Sys2Proof.Machine

/-- `delta` of a WINDOW_UPDATE payload, which is 4 bytes (30_encoding.md R91). -/
def windowDelta : List Byte → Option Nat
  | [b0, b1, b2, b3] => some (le32 b0 b1 b2 b3)
  | _ => none

/-- The four bytes of an unsigned 32-bit value, least significant first (30_encoding.md R89). -/
def bytes32 (v : Nat) : List Byte :=
  [BitVec.ofNat 8 v, BitVec.ofNat 8 (v / 256), BitVec.ofNat 8 (v / 65536), BitVec.ofNat 8 (v / 16777216)]

/-- The fields of a VERSION payload (30_encoding.md R92). -/
structure VersionFields where
  version : Nat
  radioStatus : Byte
  hardwareVersion : Byte
  windowSize : Nat
deriving DecidableEq, Repr

/-- A VERSION payload, which is 8 bytes, by its layout (30_encoding.md R92). -/
def versionFields : List Byte → Option VersionFields
  | [b0, b1, b2, b3, b4, b5, b6, b7] => some ⟨le16 b0 b1, b2, b3, le32 b4 b5 b6 b7⟩
  | _ => none

/-- The defined values of a GROUP payload's `bandwidth` (30_encoding.md R93). -/
inductive Bandwidth where
  | khz12_5
  | khz25
deriving DecidableEq, Repr

/-- The `bandwidth` byte of a channel bandwidth: 0 = 12.5 kHz, 1 = 25 kHz (30_encoding.md R93). -/
def bandwidthByte : Bandwidth → Byte
  | .khz12_5 => 0x00
  | .khz25 => 0x01

/-- A channel bandwidth in hertz (30_encoding.md R93). -/
def bandwidthHertz : Bandwidth → Nat
  | .khz12_5 => 12500
  | .khz25 => 25000

/-- A `bandwidth` byte by its meaning; other values mean nothing the spec gives (30_encoding.md R93; log entry 17). -/
def bandwidthOf (b : Byte) : Option Bandwidth :=
  if b = 0x00 then some .khz12_5 else if b = 0x01 then some .khz25 else none

/-- The fields of a GROUP payload (30_encoding.md R93). The bandwidth is the byte, of which `bandwidthOf` gives the meaning,
because the block carries every value of it. A frequency is the 32 bits of an f32, not interpreted
(R107; log entry 17). -/
structure GroupFields where
  bandwidth : Byte
  txFreq : BitVec 32
  rxFreq : BitVec 32
  txTone : Byte
  squelch : Byte
  rxTone : Byte
deriving DecidableEq, Repr

/-- The twelve bytes of a GROUP payload (30_encoding.md R93). -/
def groupBytes (g : GroupFields) : List Byte :=
  [g.bandwidth] ++ bytes32 g.txFreq.toNat ++ bytes32 g.rxFreq.toNat ++ [g.txTone, g.squelch, g.rxTone]

/-- A GROUP payload, which is 12 bytes, by its layout (30_encoding.md R93). -/
def groupFields : List Byte → Option GroupFields
  | [bw, t0, t1, t2, t3, r0, r1, r2, r3, tt, sq, rt] =>
    some ⟨bw, BitVec.ofNat 32 (le32 t0 t1 t2 t3), BitVec.ofNat 32 (le32 r0 r1 r2 r3), tt, sq, rt⟩
  | _ => none

/-- The channel bandwidth of a GROUP payload, which is 12 bytes, where its byte has a meaning (30_encoding.md R93). -/
def groupBandwidth (p : List Byte) : Option Bandwidth := (groupFields p).bind fun g => bandwidthOf g.bandwidth

/-- The defined bits of a FILTERS payload (30_encoding.md R94); bits 7 to 3 mean nothing the spec gives. -/
structure FilterFields where
  preEmphasis : Bool
  highPass : Bool
  lowPass : Bool
deriving DecidableEq, Repr

/-- A FILTERS payload, which is 1 byte, by its layout (30_encoding.md R94). -/
def filterFields : List Byte → Option FilterFields
  | [m] => some ⟨m.getLsbD 0, m.getLsbD 1, m.getLsbD 2⟩
  | _ => none

/-- The bitmask of filters, its undefined bits clear (30_encoding.md R94; log entry 17). -/
def filterByte (f : FilterFields) : Byte :=
  BitVec.ofNat 8 (f.preEmphasis.toNat + 2 * f.highPass.toNat + 4 * f.lowPass.toNat)

/-- The defined values of a CONFIG payload (30_encoding.md R95). -/
inductive Band where
  | vhf
  | uhf
deriving DecidableEq, Repr

/-- The `mode` byte of a band (30_encoding.md R95). -/
def bandByte : Band → Byte
  | .vhf => 0x04
  | .uhf => 0x05

/-- A CONFIG payload, which is 1 byte, by its layout; other values mean nothing the spec gives (30_encoding.md R95). -/
def configBand : List Byte → Option Band
  | [m] => if m = 0x04 then some .vhf else if m = 0x05 then some .uhf else none
  | _ => none

/-- The raw value of an SMETER_REPORT payload, which is 1 byte (30_encoding.md R96). -/
def smeterRaw : List Byte → Option Nat
  | [v] => some v.toNat
  | _ => none

/-- An RX_AUDIO payload: one compressed audio frame of any length, opaque (30_encoding.md R97). -/
def rxAudioFrame (p : List Byte) : List Byte := p

/-- A DEBUG_* payload: text bytes of any length and no given encoding, opaque (30_encoding.md R98). -/
def debugText (p : List Byte) : List Byte := p

/-- `SendConfig(mode)` (30_encoding.md R106). -/
def sendConfig (b : Band) : Request := ⟨0x06, [bandByte b]⟩

/-- `SendGroup(bw, tx, rx, txTone, squelch, rxTone)` (30_encoding.md R106). -/
def sendGroup (g : GroupFields) : Request := ⟨0x03, groupBytes g⟩

/-- `SendFilters(mask)` (30_encoding.md R106). -/
def sendFilters (mask : Byte) : Request := ⟨0x04, [mask]⟩

/-- `SendStop()`, whose payload the source does not give (30_encoding.md R106, R99): any. -/
def sendStop (p : List Byte) : Request := ⟨0x05, p⟩

/-- The credit a VERSION payload sets: its `windowSize`, only when the length is 8 (42_flow_control.md R184, R186). -/
def versionCredit (p : List Byte) : Option Int :=
  (versionFields p).map fun v => (v.windowSize : Int)

/-- The credit a WINDOW_UPDATE payload leaves: `CREDIT + delta`, only when the length is 4
(42_flow_control.md R185, R186). -/
def windowCredit (p : List Byte) (credit : Int) : Option Int :=
  (windowDelta p).map fun d : Nat => credit + (d : Int)

end Sys2Proof.Machine
end

