-- ==== Sys2Proof/Machine/Ops.lean ====
section
/-! DEFINITION. The named operations every meaning is made of: writing `CREDIT`, emitting an event, emitting TX bytes,
responding, the return to SYNC0, the dispatch of a received frame, the SEND of a request. The block takes no exception
and returns from none (60_exceptions.md R230, R242); an anomaly is reported by the operations below. -/

namespace Sys2Proof.Machine

/-- Run `f` on the next state; a stop stays. -/
def andThen (o : Host.Outcome State Fault Refusal) (f : State → Host.Outcome State Fault Refusal) :
    Host.Outcome State Fault Refusal :=
  match o with
  | .next s => f s
  | .fault r => .fault r
  | .refused r => .refused r

/-- `emit E` (00_scope.md R16): append to the event trace (20_memory.md R54). -/
def State.emit (s : State) (e : Event) : State := { s with events := s.events ++ [e] }

/-- `TxEmit(bs)` (00_scope.md R16): append to the TX stream, contiguously (20_memory.md R53). -/
def State.txEmit (s : State) (bs : List Byte) : State := { s with txOut := s.txOut ++ bs }

/-- `respond r` to a request (00_scope.md R16). -/
def State.respond (s : State) (c : Byte) (p : List Byte) (r : Response) : State :=
  { s with answers := s.answers ++ [⟨⟨c, p⟩, r⟩] }

/-- The one operation that writes `CREDIT` in a step of the block: exact, and refused where a finite register
does not hold the result (42_flow_control.md R187, R192). Log entry 9. -/
def setCredit (v : Int) (s : State) : Host.Outcome State Fault Refusal :=
  if s.params.creditFits v then .next { s with credit := v } else .refused .creditOutOfRange

/-- The unconditional return to `SYNC0` at the end of a dispatch (40_decoder.md R131). The zero values of `CMD`, `LEN`
and `PBUF` are the spec's normalisation (92_eei_decisions.md D4; log entry 12). -/
def State.toSync0 (s : State) : State :=
  { s with dstate := .sync0, cmd := 0, len := 0, pbuf := [] }

/-- The credit update of a dispatch: none, or the value it sets (42_flow_control.md R184 to R186, R191). -/
def updateCredit (v : Option Int) (s : State) : Host.Outcome State Fault Refusal :=
  match v with
  | none => .next s
  | some v => setCredit v s

/-- `Dispatch(c, p)` of a received frame (40_decoder.md R131), with the credit its code sets, if any: classify, emit
the `Frame` event, update the credit, return to `SYNC0`. A frame is received by `RX_BYTE` steps only, and these are
disabled while `SHUTDOWN = 1` (40_decoder.md R133; log entry 10). -/
def deliver (c : Byte) (p : List Byte) (v : Option Int) (s : State) : Host.Outcome State Fault Refusal :=
  if s.shutdown then .next s
  else andThen (updateCredit v (s.emit (.frame c p (classify c p.length)))) fun t => .next t.toSync0

/-- Is `SEND(c, p)` held: not enabled, because the credit is too low (42_flow_control.md R181, R183)? -/
def sendHeld (p : List Byte) (s : State) : Bool :=
  !s.shutdown && payloadFits p && decide (s.credit < (flen p : Int))

/-- `SEND(c, p)` (41_encoder.md R152). A held `SEND` changes nothing and has no response (42_flow_control.md R183;
log entry 7). -/
def send (c : Byte) (p : List Byte) (s : State) : Host.Outcome State Fault Refusal :=
  if s.shutdown then .next (s.respond c p (.rejected .shutDown))
  else if !payloadFits p then .next (s.respond c p (.rejected .tooLong))
  else if sendHeld p s then .next s
  else andThen (setCredit (s.credit - flen p) s) fun t =>
    .next ((t.txEmit (frameBytes c p)).respond c p .sent)

end Sys2Proof.Machine
end

