-- ==== Sys2Proof/Machine/Commands.lean ====
section
/-! DEFINITION. The eight commands (41_encoder.md section 3). "For all of them the semantics in KV4P-FB are those of rule
R152 and nothing more"; each has its own code. -/

namespace Sys2Proof.Machine

/-- PTT_DOWN (41_encoder.md R156). -/
def execCmdPttDown (p : List Byte) (s : State) : Host.Outcome State Fault Refusal := send 0x01 p s

/-- PTT_UP (41_encoder.md R157). -/
def execCmdPttUp (p : List Byte) (s : State) : Host.Outcome State Fault Refusal := send 0x02 p s

/-- GROUP (41_encoder.md R158); the length is not checked. -/
def execCmdGroup (p : List Byte) (s : State) : Host.Outcome State Fault Refusal := send 0x03 p s

/-- FILTERS (41_encoder.md R159); the length is not checked. -/
def execCmdFilters (p : List Byte) (s : State) : Host.Outcome State Fault Refusal := send 0x04 p s

/-- STOP (41_encoder.md R160). -/
def execCmdStop (p : List Byte) (s : State) : Host.Outcome State Fault Refusal := send 0x05 p s

/-- CONFIG (41_encoder.md R161); neither the length nor the value is checked. -/
def execCmdConfig (p : List Byte) (s : State) : Host.Outcome State Fault Refusal := send 0x06 p s

/-- TX_AUDIO (41_encoder.md R162). -/
def execCmdTxAudio (p : List Byte) (s : State) : Host.Outcome State Fault Refusal := send 0x07 p s

/-- WINDOW_UPDATE as a command (41_encoder.md R163): it costs credit like any frame and raises none. -/
def execCmdWindowUpdate (p : List Byte) (s : State) : Host.Outcome State Fault Refusal := send 0x08 p s

end Sys2Proof.Machine
end

