-- ==== Sys2Proof/Machine/Responses.lean ====
section
/-! DEFINITION. The twelve responses (43_frame_codes.md section 2), and every other code (R213): the dispatch of the
received frame. Only VERSION and WINDOW_UPDATE act on `CREDIT`. -/

namespace Sys2Proof.Machine

/-- DEBUG_INFO (43_frame_codes.md R201). -/
def execRspDebugInfo (p : List Byte) (s : State) : Host.Outcome State Fault Refusal := deliver 0x01 p none s

/-- DEBUG_ERROR (43_frame_codes.md R202). -/
def execRspDebugError (p : List Byte) (s : State) : Host.Outcome State Fault Refusal := deliver 0x02 p none s

/-- DEBUG_WARNING (43_frame_codes.md R203). -/
def execRspDebugWarning (p : List Byte) (s : State) : Host.Outcome State Fault Refusal := deliver 0x03 p none s

/-- DEBUG_DEBUG (43_frame_codes.md R204). -/
def execRspDebugDebug (p : List Byte) (s : State) : Host.Outcome State Fault Refusal := deliver 0x04 p none s

/-- DEBUG_TRACE (43_frame_codes.md R205). -/
def execRspDebugTrace (p : List Byte) (s : State) : Host.Outcome State Fault Refusal := deliver 0x05 p none s

/-- HELLO (43_frame_codes.md R206). -/
def execRspHello (p : List Byte) (s : State) : Host.Outcome State Fault Refusal := deliver 0x06 p none s

/-- RX_AUDIO (43_frame_codes.md R207). -/
def execRspRxAudio (p : List Byte) (s : State) : Host.Outcome State Fault Refusal := deliver 0x07 p none s

/-- VERSION (43_frame_codes.md R208): the credit is replaced by `windowSize` when the length is 8
(42_flow_control.md R184). -/
def execRspVersion (p : List Byte) (s : State) : Host.Outcome State Fault Refusal :=
  deliver 0x08 p (versionCredit p) s

/-- WINDOW_UPDATE (43_frame_codes.md R209): `delta` is added to the credit when the length is 4
(42_flow_control.md R185). -/
def execRspWindowUpdate (p : List Byte) (s : State) : Host.Outcome State Fault Refusal :=
  deliver 0x09 p (windowCredit p s.credit) s

/-- PHYS_PTT_DOWN (43_frame_codes.md R210). -/
def execRspPhysPttDown (p : List Byte) (s : State) : Host.Outcome State Fault Refusal := deliver 0x44 p none s

/-- PHYS_PTT_UP (43_frame_codes.md R211). -/
def execRspPhysPttUp (p : List Byte) (s : State) : Host.Outcome State Fault Refusal := deliver 0x55 p none s

/-- SMETER_REPORT (43_frame_codes.md R212): the length only decides the tag. -/
def execRspSmeterReport (p : List Byte) (s : State) : Host.Outcome State Fault Refusal := deliver 0x53 p none s

/-- Every other code (43_frame_codes.md R213): dispatched, tagged `UNKNOWN`, no effect. No row of the table has it,
so it is no constructor of `Instr` (log entry 16). -/
def deliverUnknown (c : Byte) (p : List Byte) (s : State) : Host.Outcome State Fault Refusal := deliver c p none s

end Sys2Proof.Machine
end

