-- ==== Sys2Proof/Machine/Dispatch.lean ====
section
/-! DEFINITION. One arm per row of spec/opcode_table.json. -/

namespace Sys2Proof.Machine

def exec (i : Instr) (s : State) : Host.Outcome State Fault Refusal :=
  match i with
  | .cmdPttDown p => Sys2Proof.Machine.execCmdPttDown p s
  | .cmdPttUp p => Sys2Proof.Machine.execCmdPttUp p s
  | .cmdGroup p => Sys2Proof.Machine.execCmdGroup p s
  | .cmdFilters p => Sys2Proof.Machine.execCmdFilters p s
  | .cmdStop p => Sys2Proof.Machine.execCmdStop p s
  | .cmdConfig p => Sys2Proof.Machine.execCmdConfig p s
  | .cmdTxAudio p => Sys2Proof.Machine.execCmdTxAudio p s
  | .cmdWindowUpdate p => Sys2Proof.Machine.execCmdWindowUpdate p s
  | .rspDebugInfo p => Sys2Proof.Machine.execRspDebugInfo p s
  | .rspDebugError p => Sys2Proof.Machine.execRspDebugError p s
  | .rspDebugWarning p => Sys2Proof.Machine.execRspDebugWarning p s
  | .rspDebugDebug p => Sys2Proof.Machine.execRspDebugDebug p s
  | .rspDebugTrace p => Sys2Proof.Machine.execRspDebugTrace p s
  | .rspHello p => Sys2Proof.Machine.execRspHello p s
  | .rspRxAudio p => Sys2Proof.Machine.execRspRxAudio p s
  | .rspVersion p => Sys2Proof.Machine.execRspVersion p s
  | .rspWindowUpdate p => Sys2Proof.Machine.execRspWindowUpdate p s
  | .rspPhysPttDown p => Sys2Proof.Machine.execRspPhysPttDown p s
  | .rspPhysPttUp p => Sys2Proof.Machine.execRspPhysPttUp p s
  | .rspSmeterReport p => Sys2Proof.Machine.execRspSmeterReport p s

end Sys2Proof.Machine
end

