-- ==== Sys2Proof/Machine/Decoder.lean ====
section
/-! DEFINITION. DEC, the frame decoder state machine (40_decoder.md): one `RX_BYTE` step, and `FEED`. It is this machine's
fetch: the step that takes a frame's last byte runs the frame. -/

namespace Sys2Proof.Machine

/-- What one received byte leads to: the decoder goes on, or a frame is complete and is dispatched in this same step. -/
inductive Received where
  | going (s : State)
  | complete (c : Byte) (p : List Byte) (s : State)
deriving DecidableEq, Repr

/-- The flush of the skip buffer: one `Skipped` event carrying all of it, if there is any (40_decoder.md R128). -/
def State.flushSkip (s : State) : State :=
  if s.skip = [] then s else { s.emit (.skipped s.skip) with skip := [] }

/-- A byte that does not match the expected sync byte: it joins the skip buffer and the position is kept
(40_decoder.md R122; the spec's decision D1, log entry 11). A finite `SKIP_CAP` flushes a full buffer at once (R130). -/
def State.skipByte (s : State) (b : Byte) : State :=
  let t := { s with skip := s.skip ++ [b] }
  if s.params.skipCap = some t.skip.length then t.flushSkip else t

/-- The byte `SYNCk` expects and the state it then enters (40_decoder.md R121), `k < 3`. -/
def syncByte (expected : Byte) (nextState : DState) (b : Byte) (s : State) : Received :=
  .going (if b = expected then { s with dstate := nextState } else s.skipByte b)

/-- The length register after its high byte (40_decoder.md R125). -/
def lenWithHi (len : Half) (b : Byte) : Half := BitVec.ofNat 16 (len.toNat % 256 + 256 * b.toNat)

/-- `RX_BYTE(b)` in each of the eight states, up to the dispatch (40_decoder.md R120 to R126). -/
def receive (b : Byte) (s : State) : Received :=
  match s.dstate with
  | .sync0 => syncByte 0xDE .sync1 b s
  | .sync1 => syncByte 0xAD .sync2 b s
  | .sync2 => syncByte 0xBE .sync3 b s
  | .sync3 => .going (if b = 0xEF then { s.flushSkip with dstate := .command } else s.skipByte b)
  | .command => .going { s with cmd := b, dstate := .lenLo }
  | .lenLo => .going { s with len := b.setWidth 16, dstate := .lenHi }
  | .lenHi =>
    let t := { s with len := lenWithHi s.len b }
    if t.len = 0 then .complete s.cmd [] t else .going { t with pbuf := [], dstate := .payload }
  | .payload =>
    let t := { s with pbuf := s.pbuf ++ [b] }
    if t.pbuf.length = s.len.toNat then .complete s.cmd t.pbuf t else .going t

/-- The dispatch of a complete frame (40_decoder.md R131): the meaning of the response its code names
(43_frame_codes.md R201 to R212), or that of every other code (R213). -/
def runFrame (c : Byte) (p : List Byte) (s : State) : Host.Outcome State Fault Refusal :=
  match responseOf c p with
  | some i => exec i s
  | none => deliverUnknown c p s

/-- What a received byte leads to, carried out. -/
def Received.finish : Received → Host.Outcome State Fault Refusal
  | .going s => .next s
  | .complete c p s => runFrame c p s

/-- `RX_BYTE(b)` (40_decoder.md R120). While `SHUTDOWN = 1` it is disabled and nothing changes (R133). -/
def rxByte (b : Byte) (s : State) : Host.Outcome State Fault Refusal :=
  if s.shutdown then .next s else (receive b s).finish

/-- `FEED(bs)` (40_decoder.md R132). -/
def feed : List Byte → State → Host.Outcome State Fault Refusal
  | [], s => .next s
  | b :: bs, s => andThen (rxByte b s) (feed bs)

end Sys2Proof.Machine
end

