-- ==== Sys2Proof/Machine/Agents.lean ====
section
/-! DEFINITION. One turn of each agent (00_scope.md R10): RX, TX, and host control, and the placing of a frame where the
next step receives it. -/

namespace Sys2Proof.Machine

/-- RX offers the transport's next byte. With none there, or while `SHUTDOWN = 1`, no step is enabled and the byte stays
in the transport (20_memory.md R52; log entry 8). -/
def rxTurn (s : State) : Host.Outcome State Fault Refusal :=
  match s.rxIn with
  | [] => .next s
  | b :: bs => if s.shutdown then .next s else rxByte b { s with rxIn := bs }

/-- `SEND` of a request: the meaning of the command its code names (41_encoder.md R156 to R163), or the same operation
for a code no row names (R155; log entry 16). -/
def sendRequest (r : Request) (s : State) : Host.Outcome State Fault Refusal :=
  match commandOf r.code r.payload with
  | some i => exec i s
  | none => send r.code r.payload s

/-- TX presents its `k`-th waiting request. A held request stays with the host and reserves no place
(20_memory.md R64, 42_flow_control.md R183); an answered one leaves the list. -/
def txTurn (k : Nat) (s : State) : Host.Outcome State Fault Refusal :=
  match s.requests[k]? with
  | none => .next s
  | some r =>
    if sendHeld r.payload s then .next s
    else sendRequest r { s with requests := s.requests.eraseIdx k }

/-- The host takes a waiting request back; the block keeps no state about it (41_encoder.md R152 d; log entry 15). -/
def withdrawTurn (k : Nat) (s : State) : Host.Outcome State Fault Refusal :=
  .next { s with requests := s.requests.eraseIdx k }

/-- `SHUTDOWN_REQ` (60_exceptions.md R248). -/
def shutdownTurn (s : State) : Host.Outcome State Fault Refusal := .next { s with shutdown := true }

/-- `RESET` (70_reset_and_hazards.md R260): the seven items take their values of 10_state.md R34. What waits outside
the block and what it has already put out stay (log entry 13). -/
def resetTurn (s : State) : Host.Outcome State Fault Refusal :=
  .next { s with
    dstate := .sync0, cmd := 0, len := 0, pbuf := [], skip := [],
    credit := s.params.initCredit, shutdown := false }

/-- One turn. -/
def takeTurn (t : Turn) (s : State) : Host.Outcome State Fault Refusal :=
  match t with
  | .rx => rxTurn s
  | .tx k => txTurn k s
  | .withdraw k => withdrawTurn k s
  | .shutdownReq => shutdownTurn s
  | .reset => resetTurn s

/-- The next turn of the schedule is spent; with none left no agent moves (log entry 8). -/
def nextTurn (s : State) : Host.Outcome State Fault Refusal :=
  match s.schedule with
  | [] => .next s
  | t :: ts => takeTurn t { s with schedule := ts }

/-- The bytes `front ++ [last]` of a frame with code `c` and `n` payload zeros, all received but the last one, which RX
offers next (log entry 6). -/
def placeFrame (c lo hi : Byte) (s : State) : State :=
  let n := le16 lo hi
  if n = 0 then
    { s with
      dstate := .lenHi, cmd := c, len := lo.setWidth 16, pbuf := [], skip := [], shutdown := false,
      rxIn := hi :: s.rxIn, schedule := .rx :: s.schedule }
  else
    { s with
      dstate := .payload, cmd := c, len := BitVec.ofNat 16 n, pbuf := List.replicate (n - 1) 0, skip := [],
      shutdown := false, rxIn := 0 :: s.rxIn, schedule := .rx :: s.schedule }

/-- The frame of a 56-bit header word (30_encoding.md R86) with a payload of zeros, placed so that the very next step
receives its last byte and runs it; any other bytes are simply offered to DEC in `SYNC0`. Log entry 6. -/
def placeWord (nbits w : Nat) (s : State) : State :=
  if nbits = 56 ∧ (List.range 4).map (wordByte w) = Config.sync then
    placeFrame (wordByte w 4) (wordByte w 5) (wordByte w 6) s
  else
    { s with
      dstate := .sync0, cmd := 0, len := 0, pbuf := [], skip := [], shutdown := false,
      rxIn := (List.range 7).map (wordByte w) ++ s.rxIn, schedule := .rx :: s.schedule }

end Sys2Proof.Machine
end

