-- ==== Sys2Proof/Machine/Step.lean ====
section
/-! DEFINITION. The step of the machine, and where the next step finds its frame. -/

namespace Sys2Proof.Machine

/-- One atomic step (00_scope.md R11): the next turn of the schedule. -/
def step (s : State) : Host.Outcome State Fault Refusal := nextTurn s

/-- A state whose very next step receives the frame of a header word of spec/opcode_table.json (log entry 6). -/
def State.withFetchWord (s : State) (nbits w : Nat) : State := placeWord nbits w s

end Sys2Proof.Machine
end

