-- ==== Sys2Proof/Safety.lean ====
section
/-! DEFINITION. The invariants of 10_state.md R32, the final states of 00_scope.md R14, and the quantities in which
statements about runs are made (42_flow_control.md R190, 60_exceptions.md R247, 41_encoder.md R165). -/

namespace Sys2Proof.Machine

/-- R32 (a): no skipped byte waits while a header or payload is being received. -/
abbrev State.skipClear (s : State) : Prop := s.dstate.num < 4 ∨ s.skip = []

/-- R32 (b): in `PAYLOAD` fewer bytes are held than declared. -/
abbrev State.payloadOpen (s : State) : Prop :=
  s.dstate = .payload → 1 ≤ s.len.toNat ∧ s.pbuf.length < s.len.toNat

/-- R32 (c): outside `PAYLOAD` the payload buffer is empty. -/
abbrev State.pbufClear (s : State) : Prop := s.dstate ≠ .payload → s.pbuf = []

/-- R32 (d): outside a frame the frame's registers are zero. -/
abbrev State.regsClear (s : State) : Prop :=
  (s.dstate.num ≤ 4 → s.cmd = 0 ∧ s.len = 0) ∧ (s.dstate = .lenLo → s.len = 0)

/-- R32 (e): the credit is not negative (42_flow_control.md R188). -/
abbrev State.creditNonneg (s : State) : Prop := 0 ≤ s.credit

/-- The invariants of 10_state.md R32. -/
abbrev State.inv (s : State) : Prop :=
  s.skipClear ∧ s.payloadOpen ∧ s.pbufClear ∧ s.regsClear ∧ s.creditNonneg

/-- The parameters are of the spec, the credit is one that the register holds, and a bounded skip buffer is not full
(00_scope.md R9, 42_flow_control.md R192, 40_decoder.md R130). -/
abbrev State.bounded (s : State) : Prop :=
  s.params.legal = true ∧ s.params.creditFits s.credit = true ∧
    ∀ n ∈ s.params.skipCap, s.skip.length < n

/-- A final state of a run (00_scope.md R14). Two points that R14 leaves open are the model's choice (log entry 21): a request
that the host took back needs no response, and "shutdown has been requested" is the flag as it stands, so a `RESET` ends it. -/
abbrev State.final (s : State) : Prop := (s.rxIn = [] ∨ s.shutdown = true) ∧ s.requests = []

/-- The seven architectural items at their values of 10_state.md R34. -/
abbrev State.blockReset (s : State) : Prop :=
  s.dstate = .sync0 ∧ s.cmd = 0 ∧ s.len = 0 ∧ s.pbuf = [] ∧ s.skip = [] ∧
    s.credit = s.params.initCredit ∧ s.shutdown = false

/-- The decoder's registers at their values after reset (40_decoder.md R137). -/
abbrev State.decoderReset (s : State) : Prop :=
  s.dstate = .sync0 ∧ s.cmd = 0 ∧ s.len = 0 ∧ s.pbuf = [] ∧ s.skip = []

/-- Bytes of the frame in progress, its matched sync bytes included (60_exceptions.md R247). -/
def State.inProgress (s : State) : Nat :=
  match s.dstate with
  | .payload => 7 + s.pbuf.length
  | d => d.num

/-- The RX bytes an event accounts for (60_exceptions.md R247). -/
def Event.size : Event → Nat
  | .skipped bs => bs.length
  | .frame _ p _ => flen p

/-- All RX bytes of a run, by where they are: in the transport, in `SKIP`, in the frame in progress, or reported
(60_exceptions.md R247). -/
def State.rxAccount (s : State) : Nat :=
  s.rxIn.length + s.skip.length + s.inProgress + (s.events.map Event.size).sum

/-- The credit an event grants: the `delta` of a well-formed WINDOW_UPDATE (42_flow_control.md R190). -/
def Event.grant : Event → Nat
  | .frame c p cls => if c = 0x09 ∧ cls = .ok then (windowDelta p).getD 0 else 0
  | .skipped _ => 0

/-- Is the event a well-formed VERSION, which sets a new base (42_flow_control.md R190)? -/
def Event.setsBase : Event → Bool
  | .frame c _ cls => decide (c = 0x08 ∧ cls = .ok)
  | .skipped _ => false

/-- The frames of the requests that were sent, in order (41_encoder.md R165). -/
def sentRequests (as : List Answer) : List Request :=
  as.filterMap fun a => if a.response = .sent then some a.request else none

/-- The TX stream is exactly the sent frames with nothing between them (20_memory.md R53, 41_encoder.md R165), and no
sent payload is over the length field's range. -/
abbrev State.txWhole (s : State) : Prop :=
  s.txOut = (sentRequests s.answers).flatMap (fun r => frameBytes r.code r.payload) ∧
    ∀ r ∈ sentRequests s.answers, payloadFits r.payload = true

/-- What the dispatch of a frame never writes: everything but `DSTATE`, `CMD`, `LEN`, `PBUF`, `CREDIT` and the event
trace (40_decoder.md R131, "Status written"). -/
abbrev State.keepsRest (s t : State) : Prop :=
  t.skip = s.skip ∧ t.shutdown = s.shutdown ∧ t.params = s.params ∧ t.rxIn = s.rxIn ∧
    t.requests = s.requests ∧ t.schedule = s.schedule ∧ t.txOut = s.txOut ∧ t.answers = s.answers

/-- Two states with the same decoder registers and the same skip bound (60_exceptions.md R246). -/
abbrev State.sameDecoder (s t : State) : Prop :=
  s.dstate = t.dstate ∧ s.cmd = t.cmd ∧ s.len = t.len ∧ s.pbuf = t.pbuf ∧ s.skip = t.skip ∧
    s.params.skipCap = t.params.skipCap

/-- The event that reports skipped bytes, if there are any (40_decoder.md R128). -/
def skippedEvent (bs : List Byte) : List Event := if bs = [] then [] else [.skipped bs]

/-- A run of `k` steps. -/
abbrev runSteps (k : Nat) (s : State) : Host.Outcome State Fault Refusal := Sys2Proof.core.run k s

end Sys2Proof.Machine
end

