-- ==== Sys2Proof/Certificates/Slice0/Obligations.lean ====
section
/-! DEFINITION. The statements for the provers. Each docstring names what it formalises; where a statement rests on one of
the spec's own decisions D<n> (92_eei_decisions.md) or on a choice of the model (log entry <n>), it says so. -/

open Sys2Proof Sys2Proof.Machine

/-! ## Encoding -/

/-- A few headers written out bit by bit from 30_encoding.md R81, R101, R102 and 95_test_vectors.md (VE1 to VE4, VF1, VD9)
decode to their rows. The numbering of the words is R86 (decision D29), their direction and zero payloads log entry 5. That the
whole-frame decoder rejects a code of no row by that name is the model's choice (log entry 19): the block receives such a frame
whole (R103). -/
def Obligations.WrittenHeadersDecodeToTheirRows : Prop :=
  decode .hostToDongle [0xDE, 0xAD, 0xBE, 0xEF, 0x05, 0x00, 0x00] = .frame (.cmdStop []) [] ∧
  decode .hostToDongle [0xDE, 0xAD, 0xBE, 0xEF, 0x06, 0x01, 0x00, 0x04] = .frame (.cmdConfig [0x04]) [] ∧
  decode .hostToDongle [0xDE, 0xAD, 0xBE, 0xEF, 0x04, 0x01, 0x00, 0x07] = .frame (.cmdFilters [0x07]) [] ∧
  decode .hostToDongle [0xDE, 0xAD, 0xBE, 0xEF, 0x03, 0x0C, 0x00, 0x01, 0xCD, 0x8C, 0x22, 0x43, 0xCD, 0x8C, 0x22, 0x43,
      0x00, 0x04, 0x00] =
    .frame (.cmdGroup [0x01, 0xCD, 0x8C, 0x22, 0x43, 0xCD, 0x8C, 0x22, 0x43, 0x00, 0x04, 0x00]) [] ∧
  decode .dongleToHost [0xDE, 0xAD, 0xBE, 0xEF, 0x08, 0x08, 0x00, 0x05, 0x00, 0x4F, 0x02, 0x00, 0x04, 0x00, 0x00] =
    .frame (.rspVersion [0x05, 0x00, 0x4F, 0x02, 0x00, 0x04, 0x00, 0x00]) [] ∧
  decode .dongleToHost [0xDE, 0xAD, 0xBE, 0xEF, 0x7F, 0x01, 0x00, 0xAA] = .rejected (.unknownCode 0x7F) ∧
  decodeTableWord 56 0xDEADBEEF530100 = some (.rspSmeterReport [0x00]) ∧
  decodeCommandWord 56 0xDEADBEEF070000 = some (.cmdTxAudio [])

/-- 41_encoder.md R151: the bytes of a frame, the length as its two slices, and the whole length. -/
def Obligations.EncoderLaysOutTheFrame : Prop :=
  ∀ (c : Byte) (p : List Byte), p.length ≤ 65535 →
    enc c p = some ([0xDE, 0xAD, 0xBE, 0xEF, c,
      (BitVec.ofNat 16 p.length).extractLsb 7 0, (BitVec.ofNat 16 p.length).extractLsb 15 8] ++ p) ∧
    ∀ bs ∈ enc c p, bs.length = 7 + p.length

/-- Decode and encode agree, for every well-formed frame of either direction, whatever bytes follow it. -/
def Obligations.DecodeOfEncodeIsTheFrame : Prop :=
  ∀ (i : Instr) (rest : List Byte), i.wellFormed = true →
    decode i.direction (encode i ++ rest) = .frame i rest

/-- What the decoder accepts is exactly an encoding: no bit of the bytes is dropped. -/
def Obligations.DecodedBytesAreAnEncoding : Prop :=
  ∀ (d : Direction) (bs : List Byte) (i : Instr) (rest : List Byte), decode d bs = .frame i rest →
    bs = encode i ++ rest ∧ i.direction = d ∧ i.wellFormed = true

/-- The header words of spec/opcode_table.json (30_encoding.md R86, decision D29): mask and match, and what each direction's
table reads from them. The payload of zeros is the interface's (log entry 5). -/
def Obligations.HeaderWordsDecodeByTheTable : Prop :=
  ∀ c lo hi : Byte,
    headerWord c lo hi &&& 0xFFFFFFFFFF0000 = 0xDEADBEEF000000 + c.toNat * 2 ^ 16 ∧
    decodeTableWord 56 (headerWord c lo hi) = responseOf c (List.replicate (le16 lo hi) 0) ∧
    decodeCommandWord 56 (headerWord c lo hi) = commandOf c (List.replicate (le16 lo hi) 0)

/-- The unknown response codes are the 244 values listed in 30_encoding.md section 5, whatever the length. -/
def Obligations.UnknownResponseCodesAreThe244Listed : Prop :=
  (∀ (c : Byte) (n : Nat) (p : List Byte),
    (classify c n = .unknown ↔ responseOf c p = none) ∧
    (classify c n = .unknown ↔
      c.toNat = 0 ∨ (0x0A ≤ c.toNat ∧ c.toNat ≤ 0x43) ∨ (0x45 ≤ c.toNat ∧ c.toNat ≤ 0x52) ∨ c.toNat = 0x54 ∨
        0x56 ≤ c.toNat)) ∧
  ((List.range 256).filter fun n => decide (classify (BitVec.ofNat 8 n) 0 = .unknown)).length = 244

/-- The payload layouts, byte by byte, and that what a host builds is read back field by field: an unsigned 32-bit field is 4
bytes, least significant first (30_encoding.md R89, R91); VERSION is R92's; GROUP is 12 bytes with no padding, its bandwidth 0
for 12.5 kHz and 1 for 25 kHz (R93); FILTERS is a byte whose bits 0, 1 and 2 are pre-emphasis, high-pass and low-pass (R94); CONFIG is `04` for VHF and `05` for UHF (R95);
SMETER_REPORT is the raw value (R96). A frequency is 32 bits, not interpreted, and another value of CONFIG or of the
bandwidth has no meaning in the views (log entry 17). -/
def Obligations.PayloadLayoutsReadBack : Prop :=
  (∀ b0 b1 b2 b3 : Byte, windowDelta [b0, b1, b2, b3] =
    some (b0.toNat + 256 * b1.toNat + 65536 * b2.toNat + 16777216 * b3.toNat)) ∧
  (∀ v : Nat, v < 4294967296 → windowDelta (bytes32 v) = some v) ∧
  (∀ (v0 v1 st hw : Byte) (w : Nat), w < 4294967296 →
    versionFields ([v0, v1, st, hw] ++ bytes32 w) = some ⟨v0.toNat + 256 * v1.toNat, st, hw, w⟩) ∧
  (∀ bw t0 t1 t2 t3 r0 r1 r2 r3 tt sq rt : Byte,
    ∃ g, groupFields [bw, t0, t1, t2, t3, r0, r1, r2, r3, tt, sq, rt] = some g ∧ g.bandwidth = bw ∧
      g.txFreq.toNat = t0.toNat + 256 * t1.toNat + 65536 * t2.toNat + 16777216 * t3.toNat ∧
      g.rxFreq.toNat = r0.toNat + 256 * r1.toNat + 65536 * r2.toNat + 16777216 * r3.toNat ∧
      g.txTone = tt ∧ g.squelch = sq ∧ g.rxTone = rt) ∧
  (∀ g : GroupFields, groupFields (groupBytes g) = some g ∧ (groupBytes g).length = 12) ∧
  (∀ (m : Byte) (b : Bandwidth), bandwidthOf m = some b ↔
    (m = 0x00 ∧ bandwidthHertz b = 12500) ∨ (m = 0x01 ∧ bandwidthHertz b = 25000)) ∧
  (∀ (g : GroupFields) (b : Bandwidth), g.bandwidth = bandwidthByte b → groupBandwidth (groupBytes g) = some b) ∧
  (∀ m : Byte, ∃ f, filterFields [m] = some f ∧ (f.preEmphasis = true ↔ m.toNat % 2 = 1) ∧
    (f.highPass = true ↔ m.toNat / 2 % 2 = 1) ∧ (f.lowPass = true ↔ m.toNat / 4 % 2 = 1)) ∧
  (∀ f : FilterFields, filterFields [filterByte f] = some f) ∧
  (∀ (m : Byte) (b : Band), configBand [m] = some b ↔ (m = 0x04 ∧ b = .vhf) ∨ (m = 0x05 ∧ b = .uhf)) ∧
  (∀ b : Band, configBand [bandByte b] = some b) ∧
  (∀ m : Byte, smeterRaw [m] = some m.toNat)

/-! ## Responses -/

/-- 43_frame_codes.md R201 to R207, R210, R211: each of these nine codes, with any payload, is dispatched with `cls = OK` and
has no effect beyond the return to `SYNC0`. -/
def Obligations.UncheckedResponsesComplete : Prop :=
  ∀ (s : State) (p : List Byte), s.shutdown = false →
    ∀ row ∈ [((0x01 : Byte), Instr.rspDebugInfo p), (0x02, .rspDebugError p), (0x03, .rspDebugWarning p),
        (0x04, .rspDebugDebug p), (0x05, .rspDebugTrace p), (0x06, .rspHello p), (0x07, .rspRxAudio p),
        (0x44, .rspPhysPttDown p), (0x55, .rspPhysPttUp p)],
      responseOf row.1 p = some row.2 ∧
      ∃ t, exec row.2 s = .next t ∧ t.events = s.events ++ [.frame row.1 p .ok] ∧ t.dstate = .sync0 ∧
        t.credit = s.credit ∧ s.keepsRest t

/-- 42_flow_control.md R184, 43_frame_codes.md R208: VERSION replaces the credit by `windowSize` when its payload is 8 bytes
and has no effect otherwise; a `windowSize` of 0 closes the gate for every frame. The parameters are of the spec (R192: a
finite register has at least 34 bits). -/
def Obligations.VersionReplacesTheCredit : Prop :=
  ∀ (s : State) (p : List Byte), s.shutdown = false → s.params.legal = true →
    (∀ b0 b1 b2 b3 b4 b5 b6 b7 : Byte, p = [b0, b1, b2, b3, b4, b5, b6, b7] →
      ∃ t, exec (.rspVersion p) s = .next t ∧
        t.credit = (b4.toNat + 256 * b5.toNat + 65536 * b6.toNat + 16777216 * b7.toNat : Nat) ∧
        t.events = s.events ++ [.frame 0x08 p .ok] ∧ t.dstate = .sync0 ∧ s.keepsRest t ∧
        (t.credit = 0 → ∀ q, payloadFits q = true → sendHeld q t = true)) ∧
    (p.length ≠ 8 →
      ∃ t, exec (.rspVersion p) s = .next t ∧ t.credit = s.credit ∧
        t.events = s.events ++ [.frame 0x08 p .badLen] ∧ t.dstate = .sync0 ∧ s.keepsRest t)

/-- 42_flow_control.md R185, 43_frame_codes.md R209: WINDOW_UPDATE adds its unsigned `delta` exactly when its payload is 4
bytes and has no effect otherwise. Where `CREDIT_W` is finite the exact sum fits (R192; with the default every sum does). -/
def Obligations.WindowUpdateAddsItsDelta : Prop :=
  ∀ (s : State) (p : List Byte), s.shutdown = false →
    (∀ b0 b1 b2 b3 : Byte, p = [b0, b1, b2, b3] →
      s.params.creditFits (s.credit +
        (b0.toNat + 256 * b1.toNat + 65536 * b2.toNat + 16777216 * b3.toNat : Nat)) = true →
      ∃ t, exec (.rspWindowUpdate p) s = .next t ∧
        t.credit = s.credit + (b0.toNat + 256 * b1.toNat + 65536 * b2.toNat + 16777216 * b3.toNat : Nat) ∧
        s.credit ≤ t.credit ∧ t.events = s.events ++ [.frame 0x09 p .ok] ∧ t.dstate = .sync0 ∧ s.keepsRest t) ∧
    (p.length ≠ 4 →
      ∃ t, exec (.rspWindowUpdate p) s = .next t ∧ t.credit = s.credit ∧
        t.events = s.events ++ [.frame 0x09 p .badLen] ∧ t.dstate = .sync0 ∧ s.keepsRest t)

/-- 43_frame_codes.md R212: SMETER_REPORT is `OK` exactly with 1 payload byte and has no effect on the block either way. -/
def Obligations.SmeterReportChecksItsLength : Prop :=
  ∀ (s : State) (p : List Byte), s.shutdown = false →
    ∃ t, exec (.rspSmeterReport p) s = .next t ∧
      t.events = s.events ++ [.frame 0x53 p (if p.length = 1 then .ok else .badLen)] ∧ t.dstate = .sync0 ∧
      t.credit = s.credit ∧ s.keepsRest t

/-- 40_decoder.md R131 as one formula, for every code, known or not, with the default register width. The zero values of
`CMD`, `LEN`, `PBUF` are the spec's decision D4, the tags D15, the delivery of bad frames D16. -/
def Obligations.DispatchIsTheRuleForEveryCode : Prop :=
  ∀ (c : Byte) (p : List Byte) (s : State), s.shutdown = false → s.params.creditW = none →
    runFrame c p s = .next { s with
      events := s.events ++ [.frame c p (classify c p.length)],
      credit :=
        if c = 0x08 ∧ p.length = 8 then
          (le32 (p.getD 4 0) (p.getD 5 0) (p.getD 6 0) (p.getD 7 0) : Int)
        else if c = 0x09 ∧ p.length = 4 then
          s.credit + (le32 (p.getD 0 0) (p.getD 1 0) (p.getD 2 0) (p.getD 3 0) : Int)
        else s.credit,
      dstate := .sync0, cmd := 0, len := 0, pbuf := [] }

/-- 42_flow_control.md R192 (decision D6), log entry 9: with a finite register a sum that does not fit is given no meaning;
it is neither wrapped nor saturated. -/
def Obligations.OverflowingWindowUpdateIsRefused : Prop :=
  ∀ (s : State) (b0 b1 b2 b3 : Byte), s.shutdown = false →
    s.params.creditFits (s.credit + (le32 b0 b1 b2 b3 : Int)) = false →
    exec (.rspWindowUpdate [b0, b1, b2, b3]) s = .refused .creditOutOfRange

/-! ## The decoder, byte by byte -/

/-- 40_decoder.md R121: a matching byte advances the sync position; the fourth one first flushes a skip buffer that is not
empty. Nothing else changes. -/
def Obligations.MatchingSyncByteAdvances : Prop :=
  ∀ s : State, s.shutdown = false →
    (s.dstate = .sync0 → rxByte 0xDE s = .next { s with dstate := .sync1 }) ∧
    (s.dstate = .sync1 → rxByte 0xAD s = .next { s with dstate := .sync2 }) ∧
    (s.dstate = .sync2 → rxByte 0xBE s = .next { s with dstate := .sync3 }) ∧
    (s.dstate = .sync3 → rxByte 0xEF s = .next { s with
      dstate := .command, skip := [], events := s.events ++ skippedEvent s.skip })

/-- 40_decoder.md R122 and R130, which follow the spec's decisions D1 and D5 (log entry 11): a mismatching byte joins the skip
buffer, the sync position stays, and a finite buffer that becomes full is reported and emptied. -/
def Obligations.MismatchKeepsTheSyncPosition : Prop :=
  ∀ (s : State) (k : Nat) (b : Byte), s.shutdown = false → s.dstate.num = k → k < 4 → Config.sync[k]? ≠ some b →
    (s.params.skipCap = none → rxByte b s = .next { s with skip := s.skip ++ [b] }) ∧
    (∀ n, s.params.skipCap = some n → n = s.skip.length + 1 →
      rxByte b s = .next { s with skip := [], events := s.events ++ [.skipped (s.skip ++ [b])] }) ∧
    (∀ n, s.params.skipCap = some n → n ≠ s.skip.length + 1 →
      rxByte b s = .next { s with skip := s.skip ++ [b] })

/-- 40_decoder.md R123, R124: every byte is a code in `COMMAND` and a low length byte in `LEN_LO`. -/
def Obligations.CodeAndLowLengthBytesAreTaken : Prop :=
  ∀ (s : State) (b : Byte), s.shutdown = false →
    (s.dstate = .command → rxByte b s = .next { s with cmd := b, dstate := .lenLo }) ∧
    (s.dstate = .lenLo → rxByte b s = .next { s with len := b.zeroExtend 16, dstate := .lenHi })

/-- 40_decoder.md R125: the high byte completes the length; a zero length is dispatched in the same step with an empty
payload and ends in `SYNC0`, any other opens `PAYLOAD` with an empty buffer. -/
def Obligations.HighLengthByteDispatchesOrOpensPayload : Prop :=
  ∀ (s : State) (b : Byte), s.shutdown = false → s.dstate = .lenHi →
    ∃ n : Half, n.toNat = s.len.toNat % 256 + 256 * b.toNat ∧
      (n = 0 → rxByte b s = runFrame s.cmd [] { s with len := n } ∧
        ∀ t, rxByte b s = .next t → t.dstate = .sync0) ∧
      (n ≠ 0 → rxByte b s = .next { s with len := n, pbuf := [], dstate := .payload })

/-- 40_decoder.md R126: every byte is payload in `PAYLOAD`; the byte that makes the buffer as long as declared dispatches the
frame in the same step. -/
def Obligations.PayloadByteIsAppendedOrDispatches : Prop :=
  ∀ (s : State) (b : Byte), s.shutdown = false → s.dstate = .payload →
    (s.pbuf.length + 1 = s.len.toNat →
      rxByte b s = runFrame s.cmd (s.pbuf ++ [b]) { s with pbuf := s.pbuf ++ [b] }) ∧
    (s.pbuf.length + 1 ≠ s.len.toNat → rxByte b s = .next { s with pbuf := s.pbuf ++ [b] })

/-- 40_decoder.md R127 (derived there from R121 to R126): the whole next-state table with its events, the events with an
unbounded skip buffer. -/
def Obligations.NextStateTableHolds : Prop :=
  ∀ (b : Byte) (s t : State), s.shutdown = false → rxByte b s = .next t →
    t.dstate = (match s.dstate with
      | .sync0 => if b = 0xDE then .sync1 else .sync0
      | .sync1 => if b = 0xAD then .sync2 else .sync1
      | .sync2 => if b = 0xBE then .sync3 else .sync2
      | .sync3 => if b = 0xEF then .command else .sync3
      | .command => .lenLo
      | .lenLo => .lenHi
      | .lenHi => if s.len.toNat % 256 + 256 * b.toNat = 0 then .sync0 else .payload
      | .payload => if s.pbuf.length + 1 = s.len.toNat then .sync0 else .payload) ∧
    (s.params.skipCap = none → t.events = s.events ++ (match s.dstate with
      | .sync3 => if b = 0xEF then skippedEvent s.skip else []
      | .lenHi =>
        if s.len.toNat % 256 + 256 * b.toNat = 0 then [.frame s.cmd [] (classify s.cmd 0)] else []
      | .payload =>
        if s.pbuf.length + 1 = s.len.toNat then
          [.frame s.cmd (s.pbuf ++ [b]) (classify s.cmd (s.pbuf.length + 1))]
        else []
      | _ => []))

/-- 40_decoder.md R120: a step emits at most one event, and what was emitted stays (20_memory.md R54). -/
def Obligations.StepEmitsAtMostOneEvent : Prop :=
  ∀ s t : State, step s = .next t → t.events = s.events ∨ ∃ e, t.events = s.events ++ [e]

/-- 40_decoder.md R128, R129 (decisions D2, D30): with an unbounded skip buffer a `Skipped` event appears only in the step that
matches the fourth sync byte, and carries the whole buffer, which is then empty. -/
def Obligations.SkippedIsReportedOnlyOnRegainingSync : Prop :=
  ∀ (s t : State) (bs : List Byte), s.params.skipCap = none → step s = .next t →
    t.events = s.events ++ [.skipped bs] →
    s.dstate = .sync3 ∧ s.rxIn.head? = some 0xEF ∧ bs = s.skip ∧ bs ≠ [] ∧ t.dstate = .command ∧ t.skip = []

/-- 40_decoder.md R135 (derived there): from any sync state the four marker bytes lead to `COMMAND` with nothing left in the
skip buffer; with an unbounded buffer the marker's own bytes that did not match are reported after what was skipped before. -/
def Obligations.MarkerLocksFromAnySyncState : Prop :=
  ∀ s : State, s.shutdown = false → s.dstate.num < 4 →
    ∃ t, feed [0xDE, 0xAD, 0xBE, 0xEF] s = .next t ∧ t.dstate = .command ∧ t.skip = [] ∧ t.credit = s.credit ∧
      (s.params.skipCap = none →
        t.events = s.events ++ skippedEvent (s.skip ++ Config.sync.take s.dstate.num))

/-- 40_decoder.md R122 corner case (a), 70_reset_and_hazards.md R277 (decision D1, log entry 11): the marker is matched as a
subsequence, and exactly the bytes between are reported, in order. -/
def Obligations.MarkerIsMatchedAsASubsequence : Prop :=
  ∀ (s : State) (w x y z : List Byte), s.shutdown = false → s.dstate = .sync0 → s.params.skipCap = none →
    0xDE ∉ w → 0xAD ∉ x → 0xBE ∉ y → 0xEF ∉ z →
    feed (w ++ [0xDE] ++ x ++ [0xAD] ++ y ++ [0xBE] ++ z ++ [0xEF]) s = .next { s with
      dstate := .command, skip := [], events := s.events ++ skippedEvent (s.skip ++ w ++ x ++ y ++ z) }

/-- 40_decoder.md R126, 70_reset_and_hazards.md R273: whatever bytes come, the payload is the next `LEN` of them, sync markers
among them included, and the last one dispatches the frame. -/
def Obligations.DeclaredLengthIsConsumedWhole : Prop :=
  ∀ (s : State) (bs : List Byte), s.shutdown = false → s.dstate = .payload → s.pbuf.length < s.len.toNat →
    s.pbuf.length + bs.length = s.len.toNat →
    feed bs s = runFrame s.cmd (s.pbuf ++ bs) { s with pbuf := s.pbuf ++ bs }

/-- 20_memory.md R69, 40_decoder.md R132 (derived there): chunk boundaries have no effect. -/
def Obligations.ChunkBoundariesHaveNoEffect : Prop :=
  ∀ (a b : List Byte) (s : State), feed (a ++ b) s = andThen (feed a s) (feed b)

/-- 40_decoder.md R136: the bytes of `enc(c, p)` fed to a decoder in `SYNC0` yield exactly the frame, after a `Skipped` event if
bytes were skipped before, and end in `SYNC0`; the credit changes only for a well-formed VERSION or WINDOW_UPDATE. The parameters
are of the spec, and where `CREDIT_W` is finite a WINDOW_UPDATE's exact sum fits (42_flow_control.md R192). -/
def Obligations.EncodedFrameIsDecodedBack : Prop :=
  ∀ (c : Byte) (p bs : List Byte) (s : State), p.length ≤ 65535 → enc c p = some bs →
    s.shutdown = false → s.dstate = .sync0 → s.params.legal = true →
    (∀ b0 b1 b2 b3, c = 0x09 → p = [b0, b1, b2, b3] → s.params.creditFits (s.credit + (le32 b0 b1 b2 b3 : Int)) = true) →
    ∃ t, feed bs s = .next t ∧
      t.events = s.events ++ skippedEvent s.skip ++ [.frame c p (classify c p.length)] ∧
      t.dstate = .sync0 ∧ t.skip = [] ∧
      (t.credit = s.credit ∨ (c = 0x08 ∧ p.length = 8) ∨ (c = 0x09 ∧ p.length = 4))

/-- Receiving the bytes of a well-formed response is exactly its meaning: DEC, from `SYNC0` with nothing skipped, fed the
encoding of an instruction, answers what `exec` answers, next state and refusal alike (40_decoder.md R131, R136). The meaning
as one step is log entry 10. -/
def Obligations.ReceivingAResponseIsItsMeaning : Prop :=
  ∀ (i : Instr) (s : State), i.direction = .dongleToHost → i.wellFormed = true →
    s.dstate = .sync0 → s.skip = [] → feed (encode i) s = exec i s

/-- 42_flow_control.md R186: a VERSION or WINDOW_UPDATE frame of the wrong length, received whole, is tagged `BADLEN` and the
credit keeps its value, whatever the width of the register. -/
def Obligations.MalformedCreditFrameChangesNothing : Prop :=
  ∀ (c : Byte) (p : List Byte) (s : State), (c = 0x08 ∧ p.length ≠ 8) ∨ (c = 0x09 ∧ p.length ≠ 4) →
    p.length ≤ 65535 → s.shutdown = false → s.dstate = .sync0 → s.skip = [] →
    ∃ t, feed (frameBytes c p) s = .next t ∧ t.credit = s.credit ∧
      t.events = s.events ++ [.frame c p .badLen] ∧ t.dstate = .sync0 ∧ s.keepsRest t

/-- 43_frame_codes.md R213: a frame of any other code is received in full and dispatched as `UNKNOWN`, with no effect. -/
def Obligations.UnknownCodeIsReceivedWhole : Prop :=
  ∀ (c : Byte) (p : List Byte) (s : State),
    c ∉ ([0x01, 0x02, 0x03, 0x04, 0x05, 0x06, 0x07, 0x08, 0x09, 0x44, 0x55, 0x53] : List Byte) →
    p.length ≤ 65535 → s.shutdown = false → s.dstate = .sync0 → s.skip = [] →
    ∃ t, feed (frameBytes c p) s = .next t ∧ t.events = s.events ++ [.frame c p .unknown] ∧
      t.dstate = .sync0 ∧ t.credit = s.credit ∧ s.keepsRest t

/-- 30_encoding.md R104, 70_reset_and_hazards.md R279 (derived there): a command looped back is read by the response table; a
sent WINDOW_UPDATE command reads as a VERSION of the wrong length. -/
def Obligations.LoopedBackCommandReadsAsResponse : Prop :=
  (∀ (i : Instr) (s : State), i.direction = .hostToDongle → i.wellFormed = true → s.shutdown = false →
    s.dstate = .sync0 → s.skip = [] →
    ∃ j, responseOf i.code i.payload = some j ∧ feed (encode i) s = exec j s) ∧
  (∀ (s : State) (b0 b1 b2 b3 : Byte), s.shutdown = false → s.dstate = .sync0 → s.skip = [] →
    ∃ t, feed (encode (.cmdWindowUpdate [b0, b1, b2, b3])) s = .next t ∧ t.credit = s.credit ∧
      t.events = s.events ++ [.frame 0x08 [b0, b1, b2, b3] .badLen])

/-- 40_decoder.md R134 (derived there), 60_exceptions.md R242: from any state that the invariants of R32 allow there are bytes
that finish whatever the decoder is in the middle of, after which every frame is received and ends in the reset decoder. Where
`CREDIT_W` is finite, an exact sum that does not fit has no meaning (42_flow_control.md R192, decision D6, log entry 9): a
WINDOW_UPDATE in progress still fits when its missing bytes are 0, and so does the one that may follow. -/
def Obligations.DecoderRecoversFromAnyState : Prop :=
  ∀ s : State, s.inv → s.shutdown = false → s.params.legal = true →
    (∀ b0 b1 b2 b3, s.dstate = .payload → s.cmd = 0x09 → s.len = 4 →
      s.pbuf ++ List.replicate (4 - s.pbuf.length) 0 = [b0, b1, b2, b3] →
      s.params.creditFits (s.credit + (le32 b0 b1 b2 b3 : Int)) = true) →
    ∃ (filler : List Byte) (u : State), feed filler s = .next u ∧ u.params = s.params ∧
      ∀ (c : Byte) (p : List Byte), p.length ≤ 65535 →
        (∀ b0 b1 b2 b3, c = 0x09 → p = [b0, b1, b2, b3] →
          u.params.creditFits (u.credit + (le32 b0 b1 b2 b3 : Int)) = true) →
        ∃ t, feed (filler ++ frameBytes c p) s = .next t ∧ t.decoderReset ∧
          t.events.getLast? = some (.frame c p (classify c p.length))

/-- 40_decoder.md R137 (derived there; the zero values are decision D4): a step that emits a `Frame` event leaves the decoder
as after reset, and the tag is the classification of the frame. -/
def Obligations.DispatchLeavesTheDecoderReset : Prop :=
  ∀ (s t : State) (c : Byte) (p : List Byte) (cls : Cls), s.inv → step s = .next t →
    t.events = s.events ++ [.frame c p cls] → t.decoderReset ∧ cls = classify c p.length

/-- 40_decoder.md R133, 60_exceptions.md R248 (decision D14): while `SHUTDOWN = 1` no byte is consumed and nothing changes; the
turn alone is spent (log entry 8). That the meaning of a response, as an instruction of its own, then changes nothing either is
the model's choice (log entry 10). -/
def Obligations.ShutdownDisablesReception : Prop :=
  ∀ s : State, s.shutdown = true →
    (∀ b, rxByte b s = .next s) ∧ (∀ bs, feed bs s = .next s) ∧
    (∀ i, i.direction = .dongleToHost → exec i s = .next s) ∧
    (∀ ts, s.schedule = .rx :: ts → step s = .next { s with schedule := ts })

/-! ## Sending -/

/-- The eight commands complete when the block is not shut down and the credit covers the frame: the frame's bytes
(41_encoder.md R151, R156 to R163) join the TX stream, the credit pays for all of them, the request is answered `Sent`, and
nothing else changes (R152, which follows decisions D8, D9, D14, D17; D28 for WINDOW_UPDATE). The credit is one the register holds. -/
def Obligations.CoveredCommandsAreSent : Prop :=
  ∀ (s : State) (p : List Byte), s.shutdown = false → p.length ≤ 65535 → (7 + p.length : Int) ≤ s.credit →
    s.params.creditFits s.credit = true →
    ∀ row ∈ [((0x01 : Byte), Instr.cmdPttDown p), (0x02, .cmdPttUp p), (0x03, .cmdGroup p), (0x04, .cmdFilters p),
        (0x05, .cmdStop p), (0x06, .cmdConfig p), (0x07, .cmdTxAudio p), (0x08, .cmdWindowUpdate p)],
      commandOf row.1 p = some row.2 ∧
      exec row.2 s = .next { s with
        credit := s.credit - (7 + p.length),
        txOut := s.txOut ++ ([0xDE, 0xAD, 0xBE, 0xEF, row.1, BitVec.ofNat 8 p.length, BitVec.ofNat 8 (p.length / 256)] ++ p),
        answers := s.answers ++ [⟨⟨row.1, p⟩, .sent⟩] }

/-- 42_flow_control.md R182, 41_encoder.md R164: whatever the code, a frame that is written debits its whole length in the same
step, and a rejected or held `SEND` debits and writes nothing. When a `SEND` is written, rejected or held is 41_encoder.md R152
and 42_flow_control.md R181, R183 (decisions D8, D10, D14, D17), and that a held one is a next state is log entry 7. The credit
is one the register holds (R192, decision D6). -/
def Obligations.EveryWrittenFramePaysItsWholeLength : Prop :=
  ∀ (c : Byte) (p : List Byte) (s : State), s.params.creditFits s.credit = true →
    (s.shutdown = false → p.length ≤ 65535 → (7 + p.length : Int) ≤ s.credit →
      ∃ t, sendRequest ⟨c, p⟩ s = .next t ∧ t.credit = s.credit - (7 + p.length) ∧
        t.txOut = s.txOut ++ frameBytes c p ∧ t.txOut.length = s.txOut.length + (7 + p.length)) ∧
    (s.shutdown = true ∨ 65535 < p.length ∨ s.credit < (7 + p.length : Int) →
      ∃ t, sendRequest ⟨c, p⟩ s = .next t ∧ t.credit = s.credit ∧ t.txOut = s.txOut)

/-- 42_flow_control.md R183, 41_encoder.md R152 (decision D8; log entry 7): a command whose frame exceeds the credit changes
nothing, and its request stays with the host. -/
def Obligations.HeldCommandChangesNothing : Prop :=
  ∀ (i : Instr) (s : State), i.direction = .hostToDongle → i.wellFormed = true → s.shutdown = false →
    s.credit < (7 + i.payload.length : Int) →
    exec i s = .next s ∧
    ∀ k ts, s.schedule = .tx k :: ts → s.requests[k]? = some ⟨i.code, i.payload⟩ →
      step s = .next { s with schedule := ts }

/-- 41_encoder.md R152, R153 (decisions D10, D14, D17): a shut-down block rejects every command as `ShutDown`, whatever its
length; otherwise a payload over 65535 bytes is rejected as `TooLong`. The response is all that changes. -/
def Obligations.RejectedCommandsOnlyRespond : Prop :=
  ∀ (i : Instr) (s : State), i.direction = .hostToDongle →
    (s.shutdown = true →
      exec i s = .next { s with answers := s.answers ++ [⟨⟨i.code, i.payload⟩, .rejected .shutDown⟩] }) ∧
    (s.shutdown = false → 65535 < i.payload.length →
      exec i s = .next { s with answers := s.answers ++ [⟨⟨i.code, i.payload⟩, .rejected .tooLong⟩] } ∧
      enc i.code i.payload = none)

/-- 42_flow_control.md R181 (decision D8), 20_memory.md R53, R64: a step writes nothing to the TX stream, or exactly one whole
frame of a waiting request, on credit that covers it and is debited by it. -/
def Obligations.GateNeverOverdraws : Prop :=
  ∀ s t : State, step s = .next t →
    t.txOut = s.txOut ∨
    ∃ r ∈ s.requests, t.txOut = s.txOut ++ frameBytes r.code r.payload ∧
      (7 + r.payload.length : Int) ≤ s.credit ∧ t.credit = s.credit - (7 + r.payload.length) ∧
      t.answers = s.answers ++ [⟨r, .sent⟩]

/-- 42_flow_control.md R189 (derived there): once a WINDOW_UPDATE of sufficient size is dispatched, a command that was held is
sent at once. Where `CREDIT_W` is finite the exact sum fits (R192; with the default every sum does). What else lifts a hold,
and that nothing more does, is `HoldIsLiftedOnlyByCreditShutdownOrReset`. -/
def Obligations.SufficientWindowUpdateLiftsTheHold : Prop :=
  ∀ (s : State) (i : Instr) (b0 b1 b2 b3 : Byte), i.direction = .hostToDongle → i.wellFormed = true →
    s.shutdown = false → s.params.creditFits (s.credit + (le32 b0 b1 b2 b3 : Int)) = true →
    (7 + i.payload.length : Int) - s.credit ≤ (le32 b0 b1 b2 b3 : Int) →
    ∃ t u, exec (.rspWindowUpdate [b0, b1, b2, b3]) s = .next t ∧ exec i t = .next u ∧
      u.txOut = s.txOut ++ encode i ∧ u.answers = s.answers ++ [⟨⟨i.code, i.payload⟩, .sent⟩]

/-- 10_state.md R30 (decision D11): `SEND_OK(n)` says exactly whether a request with an `n`-byte payload is answered `Sent`. -/
def Obligations.SendOkSaysWhetherARequestIsSent : Prop :=
  ∀ (c : Byte) (p : List Byte) (s : State), s.params.creditFits s.credit = true →
    (s.sendOk p.length = true ↔
      ∃ t, sendRequest ⟨c, p⟩ s = .next t ∧ t.answers = s.answers ++ [⟨⟨c, p⟩, .sent⟩])

/-- 20_memory.md R64, 10_state.md R33, 42_flow_control.md R181, R183 (decision D8; log entries 7 and 15): a request leaves the
host's list only answered, when it is not held, or taken back by the host; so a held one is neither dropped nor answered. -/
def Obligations.RequestsAreAnsweredOrKept : Prop :=
  ∀ s t : State, step s = .next t →
    (t.requests = s.requests ∧ t.answers = s.answers) ∨
    (∃ k r resp, s.schedule.head? = some (.tx k) ∧ s.requests[k]? = some r ∧ sendHeld r.payload s = false ∧
      t.requests = s.requests.eraseIdx k ∧ t.answers = s.answers ++ [⟨r, resp⟩]) ∨
    (∃ k, s.schedule.head? = some (.withdraw k) ∧ t.requests = s.requests.eraseIdx k ∧ t.answers = s.answers)

/-! ## Steps, runs and invariants -/

/-- A step runs the decoded command (00_scope.md R10, R11; the turns are log entry 1): at a TX turn whose request is not held,
the step is the `SEND` of that request, whatever its code (41_encoder.md R155), with the turn spent and the request taken off
the host's list; where the request is a command of the table, it is `exec` of that command, and where its code is unnamed, it
is the same operation (log entry 16). -/
def Obligations.StepRunsThePresentedCommand : Prop :=
  ∀ (s : State) (k : Nat) (ts : List Turn) (r : Request), s.schedule = .tx k :: ts →
    s.requests[k]? = some r → sendHeld r.payload s = false →
    step s = sendRequest r { s with schedule := ts, requests := s.requests.eraseIdx k } ∧
    (∀ i, decode .hostToDongle (frameBytes r.code r.payload) = .frame i [] → i.wellFormed = true →
      step s = exec i { s with schedule := ts, requests := s.requests.eraseIdx k }) ∧
    (commandOf r.code r.payload = none →
      step s = send r.code r.payload { s with schedule := ts, requests := s.requests.eraseIdx k })

/-- A step runs the decoded response (00_scope.md R10, R11; the turns are log entry 1): at an RX turn the step is `RX_BYTE` of
the transport's first byte (20_memory.md R62, 40_decoder.md R120), with the turn spent and the byte consumed; where the byte
completes a frame, it is the dispatch of that frame, unknown codes included (R131), and where the response table names the
frame, it is `exec` of it in the state the decoder is then in. -/
def Obligations.StepRunsTheReceivedResponse : Prop :=
  ∀ (s : State) (ts : List Turn) (b : Byte) (bs : List Byte), s.schedule = .rx :: ts → s.rxIn = b :: bs →
    s.shutdown = false →
    step s = rxByte b { s with schedule := ts, rxIn := bs } ∧
    ∀ (c : Byte) (p : List Byte) (u : State), receive b { s with schedule := ts, rxIn := bs } = .complete c p u →
      step s = runFrame c p u ∧
      ∀ i, decode .dongleToHost (frameBytes c p) = .frame i [] → i.wellFormed = true → step s = exec i u

/-- The state `withFetchWord` builds from a header word of the table runs that row's frame in the very next step (log entries
5 and 6): the answer is that of `exec` on the state with reception enabled and nothing skipped. -/
def Obligations.PlacedWordRunsNext : Prop :=
  ∀ (s : State) (c lo hi : Byte) (i : Instr), responseOf c (List.replicate (le16 lo hi) 0) = some i →
    step (s.withFetchWord 56 (headerWord c lo hi)) = exec i { s with shutdown := false, skip := [] }

/-- 70_reset_and_hazards.md R260, 60_exceptions.md R248 (decisions D4, D14, D26; log entry 13): the two steps of host control,
enabled in every state. -/
def Obligations.HostControlSteps : Prop :=
  ∀ (s : State) (ts : List Turn),
    (s.schedule = .reset :: ts →
      ∃ t, step s = .next t ∧ t.blockReset ∧ t.params = s.params ∧ t.schedule = ts ∧ t.rxIn = s.rxIn ∧
        t.requests = s.requests ∧ t.events = s.events ∧ t.txOut = s.txOut ∧ t.answers = s.answers) ∧
    (s.schedule = .shutdownReq :: ts → step s = .next { s with schedule := ts, shutdown := true })

/-- 10_state.md R34 (decisions D4, D7, D26): what reset leaves, with the default parameters (00_scope.md R9, log entry 4) and the
status outputs it shows (10_state.md R30, decision D11); and that for every parameter value the spec admits it meets each
invariant stated below: those of 10_state.md R32, the bounds (40_decoder.md R130, 42_flow_control.md R192; decisions D5, D6), and
the TX stream (41_encoder.md R165; nothing is sent or answered yet, log entry 3). That an admitted `INIT_CREDIT` fits a finite
register is the model's choice (log entry 9). -/
def Obligations.ResetStateIsTheTabulatedOne : Prop :=
  State.reset.blockReset ∧ State.reset.credit = 1024 ∧ State.reset.inFrame = false ∧
  State.reset.skipPending = false ∧ (∀ n, State.reset.sendOk n = true ↔ 7 + n ≤ 1024) ∧
  ∀ params : Params, params.legal = true →
    (State.resetWith params).blockReset ∧ (State.resetWith params).inv ∧ (State.resetWith params).bounded ∧
      (State.resetWith params).txWhole

/-- 10_state.md R32 (derived there; decision D4 for items (c) and (d)), 42_flow_control.md R188: every step keeps the state's
invariants, from every state that has them. -/
def Obligations.EveryStepKeepsTheInvariants : Prop :=
  ∀ s t : State, s.inv → step s = .next t → t.inv

/-- Every step keeps a legal credit and a skip buffer below its bound, and the parameters (00_scope.md R9, 42_flow_control.md
R192, 40_decoder.md R130; decisions D5, D6; log entry 4). That a legal `INIT_CREDIT` fits the register is log entry 9. -/
def Obligations.EveryStepKeepsTheBounds : Prop :=
  ∀ s t : State, s.bounded → step s = .next t → t.bounded ∧ t.params = s.params

/-- 20_memory.md R53, 41_encoder.md R165 (derived there): every step keeps the TX stream equal to the sent frames, whole, in
order, with nothing between them. -/
def Obligations.EveryStepKeepsTheTxStreamWhole : Prop :=
  ∀ s t : State, s.txWhole → step s = .next t → t.txWhole

/-- 41_encoder.md R165 (derived there): a second decoder in `SYNC0` that is fed such a TX stream recovers exactly the sent
codes and payloads, in order, with no `Skipped` event. The second decoder has the default register width. -/
def Obligations.TxStreamDecodesToTheSentFrames : Prop :=
  ∀ s r : State, s.txWhole → r.shutdown = false → r.dstate = .sync0 → r.skip = [] → r.params.creditW = none →
    ∃ t, feed s.txOut r = .next t ∧ t.dstate = .sync0 ∧ t.skip = [] ∧
      t.events = r.events ++ (sentRequests s.answers).map fun q =>
        .frame q.code q.payload (classify q.code q.payload.length)

/-- 00_scope.md R12, 40_decoder.md R134: with the default register width no step stops: every step of every agent, in every
state, with every byte and every request, answers a next state. R12 makes a hold an outcome of its own, and R133 disables
`RX_BYTE` under shutdown (decisions D8, D14): that a held `SEND` is a next state is log entry 7, and that a turn which is not
enabled, or no turn left, is one is log entry 8, the model's choice. -/
def Obligations.NoStepStopsWithTheDefaultWidth : Prop :=
  ∀ s : State, s.params.creditW = none → ∃ t, step s = .next t

/-- 42_flow_control.md R192 (decision D6; log entry 9): from a state within its bounds and invariants the only step that is
refused is the RX turn that receives the last byte of a 4-byte WINDOW_UPDATE whose exact sum a finite register does not hold. -/
def Obligations.OnlyAnOverflowingWindowUpdateIsRefused : Prop :=
  ∀ (s : State) (r : Refusal), s.inv → s.bounded → step s = .refused r →
    r = .creditOutOfRange ∧ s.schedule.head? = some .rx ∧ s.shutdown = false ∧ s.dstate = .payload ∧ s.cmd = 0x09 ∧
      s.len = 4 ∧ s.params.creditW ≠ none ∧
      ∃ b bs b0 b1 b2, s.rxIn = b :: bs ∧ s.pbuf = [b0, b1, b2] ∧
        s.params.creditFits (s.credit + (le32 b0 b1 b2 b : Int)) = false

/-- 10_state.md R26, 42_flow_control.md R191: only a reset, a written frame, a well-formed VERSION and a well-formed
WINDOW_UPDATE change the credit. -/
def Obligations.OnlyFourEventsWriteTheCredit : Prop :=
  ∀ s t : State, step s = .next t → t.credit ≠ s.credit →
    s.schedule.head? = some .reset ∨ t.txOut ≠ s.txOut ∨
    (∃ p, p.length = 8 ∧ t.events = s.events ++ [.frame 0x08 p .ok]) ∨
    (∃ p, p.length = 4 ∧ t.events = s.events ++ [.frame 0x09 p .ok])

/-- 10_state.md R27, 60_exceptions.md R248, 70_reset_and_hazards.md R261 (decision D14): only `RESET` leaves shutdown; until then
the block's registers, the events and the TX stream stay, and every request that is presented is answered at once. -/
def Obligations.OnlyResetLeavesShutdown : Prop :=
  ∀ s t : State, s.shutdown = true → s.schedule.head? ≠ some .reset → step s = .next t →
    t.shutdown = true ∧ t.dstate = s.dstate ∧ t.cmd = s.cmd ∧ t.len = s.len ∧ t.pbuf = s.pbuf ∧ t.skip = s.skip ∧
      t.credit = s.credit ∧ t.events = s.events ∧ t.txOut = s.txOut ∧ t.rxIn = s.rxIn ∧
      ∀ k r, s.schedule.head? = some (.tx k) → s.requests[k]? = some r →
        t.answers = s.answers ++ [⟨r, .rejected .shutDown⟩] ∧ t.requests = s.requests.eraseIdx k

/-- 60_exceptions.md R246, 10_state.md R28: the sending side never touches the decoder, and the receiving side never touches
the sending side. -/
def Obligations.PathsShareOnlyCreditAndShutdown : Prop :=
  ∀ s t : State, step s = .next t →
    ((∃ k, s.schedule.head? = some (.tx k) ∨ s.schedule.head? = some (.withdraw k)) →
      t.dstate = s.dstate ∧ t.cmd = s.cmd ∧ t.len = s.len ∧ t.pbuf = s.pbuf ∧ t.skip = s.skip ∧
        t.events = s.events ∧ t.rxIn = s.rxIn ∧ t.shutdown = s.shutdown ∧ t.params = s.params) ∧
    (s.schedule.head? = some .rx →
      t.txOut = s.txOut ∧ t.answers = s.answers ∧ t.requests = s.requests ∧ t.shutdown = s.shutdown ∧
        t.params = s.params)

/-- 20_memory.md R68, 60_exceptions.md R246: what the decoder makes of received bytes does not depend on the credit, on what was
sent, or on what waits to be sent. -/
def Obligations.DecoderIsBlindToTheSendingSide : Prop :=
  ∀ (bs : List Byte) (s s' t t' : State), s.sameDecoder t → s.shutdown = false → t.shutdown = false →
    feed bs s = .next s' → feed bs t = .next t' →
    s'.sameDecoder t' ∧ ∃ evs, s'.events = s.events ++ evs ∧ t'.events = t.events ++ evs

/-- 42_flow_control.md R190 (derived there): over any run without `RESET`, from any state, as long as no well-formed VERSION
arrives, the credit is what it was, plus the deltas of the WINDOW_UPDATE frames received, minus the bytes sent. -/
def Obligations.CreditAccountBalancesOverRuns : Prop :=
  ∀ (k : Nat) (s t : State), runSteps k s = .next t → .reset ∉ s.schedule.take k →
    ∃ evs out, t.events = s.events ++ evs ∧ t.txOut = s.txOut ++ out ∧
      ((∀ e ∈ evs, e.setsBase = false) →
        t.credit = s.credit + ((evs.map Event.grant).sum : Nat) - (out.length : Nat))

/-- 60_exceptions.md R247: over any run without `RESET`, from any state, every RX byte is still in the transport, in `SKIP`, in
the frame in progress, or reported in an event. -/
def Obligations.EveryRxByteIsAccountedForOverRuns : Prop :=
  ∀ (k : Nat) (s t : State), runSteps k s = .next t → .reset ∉ s.schedule.take k → t.rxAccount = s.rxAccount

/-! ## Exactly when skipped bytes are reported, and what lifts a hold -/

/-- 40_decoder.md R121, R128 (decision D2): at the RX turn that offers the fourth sync byte, what was skipped is reported whole,
if there is any, the skip buffer is emptied and the decoder enters `COMMAND`; nothing else changes. With
`SkippedIsReportedOnlyOnRegainingSync` this says exactly when skipped bytes are reported. -/
def Obligations.RegainingSyncReportsTheSkippedBytes : Prop :=
  ∀ (s : State) (ts : List Turn) (bs : List Byte), s.schedule = .rx :: ts → s.rxIn = 0xEF :: bs → s.shutdown = false →
    s.dstate = .sync3 →
    step s = .next { s with
      schedule := ts, rxIn := bs, dstate := .command, skip := [], events := s.events ++ skippedEvent s.skip }

/-- 42_flow_control.md R183 (decision D8; log entries 7 and 15), whole: a held request becomes enabled exactly when a
well-formed VERSION or WINDOW_UPDATE is dispatched and the new credit covers it, at `SHUTDOWN_REQ`, or at a `RESET` to a
sufficient `INIT_CREDIT`; it is then answered, `ShutDown` in the second case and `Sent` in the others; and over any step that
does not take it back the host's list still has it. The parameters are legal, so `INIT_CREDIT` fits a finite register (log
entry 9). -/
def Obligations.HoldIsLiftedOnlyByCreditShutdownOrReset : Prop :=
  ∀ (s t : State) (r : Request), s.params.legal = true → sendHeld r.payload s = true → step s = .next t →
    (sendHeld r.payload t = false ↔
      (∃ p, (p.length = 8 ∧ t.events = s.events ++ [.frame 0x08 p .ok] ∨
          p.length = 4 ∧ t.events = s.events ++ [.frame 0x09 p .ok]) ∧ (7 + r.payload.length : Int) ≤ t.credit) ∨
      s.schedule.head? = some .shutdownReq ∨
      (s.schedule.head? = some .reset ∧ 7 + r.payload.length ≤ s.params.initCredit)) ∧
    (sendHeld r.payload t = false → ∃ u, sendRequest r t = .next u ∧
      u.answers = t.answers ++
        [⟨r, if s.schedule.head? = some .shutdownReq then .rejected .shutDown else .sent⟩]) ∧
    (r ∈ s.requests → (∀ k, s.schedule.head? = some (.withdraw k) → s.requests[k]? ≠ some r) → r ∈ t.requests)
end

