-- ==== Sys2Proof/Laws/Encoding.lean ====
section
/-! SUPPORT. What the encoder's length bytes and headers say (30_encoding.md R81, R84), and what the code tables answer. -/

namespace Sys2Proof

@[simp] theorem header_length (c : Byte) (n : Nat) : (header c n).length = 7 := rfl

@[simp] theorem frameBytes_length (c : Byte) (p : List Byte) : (frameBytes c p).length = flen p := by
  simp [frameBytes, flen]

@[simp] theorem encode_length (i : Instr) : (encode i).length = flen i.payload := by simp [encode]

theorem payloadFits_iff (p : List Byte) : payloadFits p = true ↔ p.length ≤ 65535 := by
  simp [payloadFits]

/-- The length bytes of a length that fits give it back. -/
theorem le16_length_bytes {n : Nat} (h : n ≤ 65535) : le16 (lengthLo n) (lengthHi n) = n := by
  simp only [le16, lengthLo, lengthHi, BitVec.toNat_ofNat]
  omega

theorem le16_lt (b0 b1 : Byte) : le16 b0 b1 < 65536 := by
  have h0 := b0.isLt
  have h1 := b1.isLt
  unfold le16
  omega

theorem le32_lt (b0 b1 b2 b3 : Byte) : le32 b0 b1 b2 b3 < 4294967296 := by
  have h0 := b0.isLt
  have h1 := b1.isLt
  have h2 := b2.isLt
  have h3 := b3.isLt
  unfold le32
  omega

/-- A length is its two bytes. -/
theorem lengthLo_le16 (b0 b1 : Byte) : lengthLo (le16 b0 b1) = b0 := by
  apply BitVec.eq_of_toNat_eq
  have h0 := b0.isLt
  simp only [le16, lengthLo, BitVec.toNat_ofNat]
  omega

theorem lengthHi_le16 (b0 b1 : Byte) : lengthHi (le16 b0 b1) = b1 := by
  apply BitVec.eq_of_toNat_eq
  have h0 := b0.isLt
  have h1 := b1.isLt
  simp only [le16, lengthHi, BitVec.toNat_ofNat]
  omega

/-- A row of a table answers, or the rows after it do. -/
theorem of_ite_some {q : Prop} [Decidable q] {x i : Instr} {o : Option Instr}
    (h : (if q then some x else o) = some i) : (q ∧ x = i) ∨ o = some i := by
  by_cases hq : q
  · rw [if_pos hq] at h
    exact .inl ⟨hq, Option.some.inj h⟩
  · rw [if_neg hq] at h
    exact .inr h

/-- What the command table answers. -/
theorem commandOf_some {c : Byte} {p : List Byte} {i : Instr} (h : commandOf c p = some i) :
    i.code = c ∧ i.payload = p ∧ i.direction = .hostToDongle := by
  unfold commandOf at h
  obtain ⟨rfl, rfl⟩ | h := of_ite_some h
  · exact ⟨rfl, rfl, rfl⟩
  obtain ⟨rfl, rfl⟩ | h := of_ite_some h
  · exact ⟨rfl, rfl, rfl⟩
  obtain ⟨rfl, rfl⟩ | h := of_ite_some h
  · exact ⟨rfl, rfl, rfl⟩
  obtain ⟨rfl, rfl⟩ | h := of_ite_some h
  · exact ⟨rfl, rfl, rfl⟩
  obtain ⟨rfl, rfl⟩ | h := of_ite_some h
  · exact ⟨rfl, rfl, rfl⟩
  obtain ⟨rfl, rfl⟩ | h := of_ite_some h
  · exact ⟨rfl, rfl, rfl⟩
  obtain ⟨rfl, rfl⟩ | h := of_ite_some h
  · exact ⟨rfl, rfl, rfl⟩
  obtain ⟨rfl, rfl⟩ | h := of_ite_some h
  · exact ⟨rfl, rfl, rfl⟩
  cases h

/-- What the response table answers. -/
theorem responseOf_some {c : Byte} {p : List Byte} {i : Instr} (h : responseOf c p = some i) :
    i.code = c ∧ i.payload = p ∧ i.direction = .dongleToHost := by
  unfold responseOf at h
  obtain ⟨rfl, rfl⟩ | h := of_ite_some h
  · exact ⟨rfl, rfl, rfl⟩
  obtain ⟨rfl, rfl⟩ | h := of_ite_some h
  · exact ⟨rfl, rfl, rfl⟩
  obtain ⟨rfl, rfl⟩ | h := of_ite_some h
  · exact ⟨rfl, rfl, rfl⟩
  obtain ⟨rfl, rfl⟩ | h := of_ite_some h
  · exact ⟨rfl, rfl, rfl⟩
  obtain ⟨rfl, rfl⟩ | h := of_ite_some h
  · exact ⟨rfl, rfl, rfl⟩
  obtain ⟨rfl, rfl⟩ | h := of_ite_some h
  · exact ⟨rfl, rfl, rfl⟩
  obtain ⟨rfl, rfl⟩ | h := of_ite_some h
  · exact ⟨rfl, rfl, rfl⟩
  obtain ⟨rfl, rfl⟩ | h := of_ite_some h
  · exact ⟨rfl, rfl, rfl⟩
  obtain ⟨rfl, rfl⟩ | h := of_ite_some h
  · exact ⟨rfl, rfl, rfl⟩
  obtain ⟨rfl, rfl⟩ | h := of_ite_some h
  · exact ⟨rfl, rfl, rfl⟩
  obtain ⟨rfl, rfl⟩ | h := of_ite_some h
  · exact ⟨rfl, rfl, rfl⟩
  obtain ⟨rfl, rfl⟩ | h := of_ite_some h
  · exact ⟨rfl, rfl, rfl⟩
  cases h

end Sys2Proof
end

