-- ==== Sys2Proof/Laws/State.lean ====
section
/-! SUPPORT. One lemma per field per update of `State`, so that no proof unfolds a record update. -/

namespace Sys2Proof.Machine

@[simp] theorem State.emit_dstate (s : State) (e : Event) : (s.emit e).dstate = s.dstate := rfl
@[simp] theorem State.emit_cmd (s : State) (e : Event) : (s.emit e).cmd = s.cmd := rfl
@[simp] theorem State.emit_len (s : State) (e : Event) : (s.emit e).len = s.len := rfl
@[simp] theorem State.emit_pbuf (s : State) (e : Event) : (s.emit e).pbuf = s.pbuf := rfl
@[simp] theorem State.emit_skip (s : State) (e : Event) : (s.emit e).skip = s.skip := rfl
@[simp] theorem State.emit_credit (s : State) (e : Event) : (s.emit e).credit = s.credit := rfl
@[simp] theorem State.emit_shutdown (s : State) (e : Event) : (s.emit e).shutdown = s.shutdown := rfl
@[simp] theorem State.emit_params (s : State) (e : Event) : (s.emit e).params = s.params := rfl
@[simp] theorem State.emit_rxIn (s : State) (e : Event) : (s.emit e).rxIn = s.rxIn := rfl
@[simp] theorem State.emit_requests (s : State) (e : Event) : (s.emit e).requests = s.requests := rfl
@[simp] theorem State.emit_schedule (s : State) (e : Event) : (s.emit e).schedule = s.schedule := rfl
@[simp] theorem State.emit_events (s : State) (e : Event) : (s.emit e).events = s.events ++ [e] := rfl
@[simp] theorem State.emit_txOut (s : State) (e : Event) : (s.emit e).txOut = s.txOut := rfl
@[simp] theorem State.emit_answers (s : State) (e : Event) : (s.emit e).answers = s.answers := rfl

@[simp] theorem State.txEmit_dstate (s : State) (bs : List Byte) : (s.txEmit bs).dstate = s.dstate := rfl
@[simp] theorem State.txEmit_cmd (s : State) (bs : List Byte) : (s.txEmit bs).cmd = s.cmd := rfl
@[simp] theorem State.txEmit_len (s : State) (bs : List Byte) : (s.txEmit bs).len = s.len := rfl
@[simp] theorem State.txEmit_pbuf (s : State) (bs : List Byte) : (s.txEmit bs).pbuf = s.pbuf := rfl
@[simp] theorem State.txEmit_skip (s : State) (bs : List Byte) : (s.txEmit bs).skip = s.skip := rfl
@[simp] theorem State.txEmit_credit (s : State) (bs : List Byte) : (s.txEmit bs).credit = s.credit := rfl
@[simp] theorem State.txEmit_shutdown (s : State) (bs : List Byte) : (s.txEmit bs).shutdown = s.shutdown := rfl
@[simp] theorem State.txEmit_params (s : State) (bs : List Byte) : (s.txEmit bs).params = s.params := rfl
@[simp] theorem State.txEmit_rxIn (s : State) (bs : List Byte) : (s.txEmit bs).rxIn = s.rxIn := rfl
@[simp] theorem State.txEmit_requests (s : State) (bs : List Byte) : (s.txEmit bs).requests = s.requests := rfl
@[simp] theorem State.txEmit_schedule (s : State) (bs : List Byte) : (s.txEmit bs).schedule = s.schedule := rfl
@[simp] theorem State.txEmit_events (s : State) (bs : List Byte) : (s.txEmit bs).events = s.events := rfl
@[simp] theorem State.txEmit_txOut (s : State) (bs : List Byte) : (s.txEmit bs).txOut = s.txOut ++ bs := rfl
@[simp] theorem State.txEmit_answers (s : State) (bs : List Byte) : (s.txEmit bs).answers = s.answers := rfl

@[simp] theorem State.respond_dstate (s : State) (c : Byte) (p : List Byte) (r : Response) : (s.respond c p r).dstate = s.dstate := rfl
@[simp] theorem State.respond_cmd (s : State) (c : Byte) (p : List Byte) (r : Response) : (s.respond c p r).cmd = s.cmd := rfl
@[simp] theorem State.respond_len (s : State) (c : Byte) (p : List Byte) (r : Response) : (s.respond c p r).len = s.len := rfl
@[simp] theorem State.respond_pbuf (s : State) (c : Byte) (p : List Byte) (r : Response) : (s.respond c p r).pbuf = s.pbuf := rfl
@[simp] theorem State.respond_skip (s : State) (c : Byte) (p : List Byte) (r : Response) : (s.respond c p r).skip = s.skip := rfl
@[simp] theorem State.respond_credit (s : State) (c : Byte) (p : List Byte) (r : Response) : (s.respond c p r).credit = s.credit := rfl
@[simp] theorem State.respond_shutdown (s : State) (c : Byte) (p : List Byte) (r : Response) : (s.respond c p r).shutdown = s.shutdown := rfl
@[simp] theorem State.respond_params (s : State) (c : Byte) (p : List Byte) (r : Response) : (s.respond c p r).params = s.params := rfl
@[simp] theorem State.respond_rxIn (s : State) (c : Byte) (p : List Byte) (r : Response) : (s.respond c p r).rxIn = s.rxIn := rfl
@[simp] theorem State.respond_requests (s : State) (c : Byte) (p : List Byte) (r : Response) : (s.respond c p r).requests = s.requests := rfl
@[simp] theorem State.respond_schedule (s : State) (c : Byte) (p : List Byte) (r : Response) : (s.respond c p r).schedule = s.schedule := rfl
@[simp] theorem State.respond_events (s : State) (c : Byte) (p : List Byte) (r : Response) : (s.respond c p r).events = s.events := rfl
@[simp] theorem State.respond_txOut (s : State) (c : Byte) (p : List Byte) (r : Response) : (s.respond c p r).txOut = s.txOut := rfl
@[simp] theorem State.respond_answers (s : State) (c : Byte) (p : List Byte) (r : Response) : (s.respond c p r).answers = s.answers ++ [⟨⟨c, p⟩, r⟩] := rfl

@[simp] theorem State.toSync0_dstate (s : State) : (s.toSync0).dstate = .sync0 := rfl
@[simp] theorem State.toSync0_cmd (s : State) : (s.toSync0).cmd = 0 := rfl
@[simp] theorem State.toSync0_len (s : State) : (s.toSync0).len = 0 := rfl
@[simp] theorem State.toSync0_pbuf (s : State) : (s.toSync0).pbuf = [] := rfl
@[simp] theorem State.toSync0_skip (s : State) : (s.toSync0).skip = s.skip := rfl
@[simp] theorem State.toSync0_credit (s : State) : (s.toSync0).credit = s.credit := rfl
@[simp] theorem State.toSync0_shutdown (s : State) : (s.toSync0).shutdown = s.shutdown := rfl
@[simp] theorem State.toSync0_params (s : State) : (s.toSync0).params = s.params := rfl
@[simp] theorem State.toSync0_rxIn (s : State) : (s.toSync0).rxIn = s.rxIn := rfl
@[simp] theorem State.toSync0_requests (s : State) : (s.toSync0).requests = s.requests := rfl
@[simp] theorem State.toSync0_schedule (s : State) : (s.toSync0).schedule = s.schedule := rfl
@[simp] theorem State.toSync0_events (s : State) : (s.toSync0).events = s.events := rfl
@[simp] theorem State.toSync0_txOut (s : State) : (s.toSync0).txOut = s.txOut := rfl
@[simp] theorem State.toSync0_answers (s : State) : (s.toSync0).answers = s.answers := rfl

end Sys2Proof.Machine
end

