-- ==== Sys2Proof/Laws/Ops.lean ====
section
/-! SUPPORT. What each shared operation can do, said once: if it answers a next state, then one of these. -/

namespace Sys2Proof.Machine

/-- Two next states are equal when the states are; the answered state stands on the left. -/
theorem next_eq_next {s t : State} :
    (Host.Outcome.next s : Host.Outcome State Fault Refusal) = .next t ↔ t = s := by
  constructor
  · intro h
    cases h
    rfl
  · rintro rfl
    rfl

/-- Two refusals are equal when the reasons are. -/
theorem refused_eq_refused {q r : Refusal} :
    (Host.Outcome.refused q : Host.Outcome State Fault Refusal) = .refused r ↔ r = q := by
  constructor
  · intro h
    cases h
    rfl
  · rintro rfl
    rfl

@[simp] theorem andThen_next (s : State) (f : State → Host.Outcome State Fault Refusal) :
    andThen (.next s) f = f s := rfl

@[simp] theorem andThen_refused (r : Refusal) (f : State → Host.Outcome State Fault Refusal) :
    andThen (.refused r) f = .refused r := rfl

/-- A sequence answers a next state through a next state in between. -/
theorem andThen_eq_next {o : Host.Outcome State Fault Refusal}
    {f : State → Host.Outcome State Fault Refusal} {t : State} :
    andThen o f = .next t ↔ ∃ s, o = .next s ∧ f s = .next t := by
  cases o <;> simp [andThen]

/-- A sequence is refused by its first part, or by its second after a next state. -/
theorem andThen_eq_refused {o : Host.Outcome State Fault Refusal}
    {f : State → Host.Outcome State Fault Refusal} {r : Refusal} :
    andThen o f = .refused r ↔ o = .refused r ∨ ∃ s, o = .next s ∧ f s = .refused r := by
  cases o <;> simp [andThen]

theorem andThen_assoc (o : Host.Outcome State Fault Refusal)
    (f g : State → Host.Outcome State Fault Refusal) :
    andThen (andThen o f) g = andThen o (fun s => andThen (f s) g) := by
  cases o <;> rfl

/-- An unbounded register holds every credit (42_flow_control.md R187). -/
theorem creditFits_of_unbounded {p : Params} (h : p.creditW = none) (v : Int) : p.creditFits v = true := by
  simp [Params.creditFits, h]

/-- What fits stays fitting on the way down to zero. -/
theorem creditFits_down {p : Params} {v w : Int} (h : p.creditFits v = true) (h0 : 0 ≤ w) (hw : w ≤ v) :
    p.creditFits w = true := by
  unfold Params.creditFits at *
  split at h
  · rfl
  · rename_i n _
    have hp : (0 : Int) ≤ 2 ^ (n - 1) := by positivity
    simp only [Bool.and_eq_true, decide_eq_true_eq] at *
    omega

/-- Every value of an unsigned 32-bit field fits a register of the spec (42_flow_control.md R192). -/
theorem creditFits_field {p : Params} (h : p.legal = true) {v : Int} (h0 : 0 ≤ v) (hv : v < 4294967296) :
    p.creditFits v = true := by
  unfold Params.creditFits
  split
  · rfl
  · rename_i w hw
    have hl : 34 ≤ w := by
      simp only [Params.legal, hw, Option.all_some, Bool.and_eq_true, decide_eq_true_eq] at h
      exact h.1.1
    have hp : (2 : Int) ^ 33 ≤ 2 ^ (w - 1) := pow_le_pow_right₀ (by norm_num) (by omega)
    norm_num at hp
    simp only [Bool.and_eq_true, decide_eq_true_eq]
    omega

/-- Writing the credit: the value fits and is stored, and nothing else changes. -/
theorem setCredit_eq_next {v : Int} {s t : State} :
    setCredit v s = .next t ↔ s.params.creditFits v = true ∧ t = { s with credit := v } := by
  unfold setCredit
  split
  · rename_i h
    rw [next_eq_next, and_iff_right h]
  · simp_all

theorem setCredit_eq_refused {v : Int} {s : State} {r : Refusal} :
    setCredit v s = .refused r ↔ s.params.creditFits v = false ∧ r = .creditOutOfRange := by
  unfold setCredit
  split
  · simp_all
  · rename_i h
    rw [refused_eq_refused, and_iff_right (by simpa using h)]

/-- The credit update of a dispatch: no value and no change, or a value that fits. -/
theorem updateCredit_eq_next {v : Option Int} {s t : State} :
    updateCredit v s = .next t ↔
      (∀ x ∈ v, s.params.creditFits x = true) ∧ t = { s with credit := v.getD s.credit } := by
  cases v with
  | none =>
    rw [updateCredit, next_eq_next]
    simp
  | some v => simp [updateCredit, setCredit_eq_next]

/-- The credit value that the dispatch of a code and payload sets, if any (40_decoder.md R131). -/
def responseCredit (c : Byte) (p : List Byte) (credit : Int) : Option Int :=
  if c = 0x08 then versionCredit p else if c = 0x09 then windowCredit p credit else none

/-- The state after a dispatch that sets the credit as `v` says. -/
def State.delivered (s : State) (c : Byte) (p : List Byte) (v : Option Int) : State :=
  { s with
    events := s.events ++ [.frame c p (classify c p.length)], credit := v.getD s.credit,
    dstate := .sync0, cmd := 0, len := 0, pbuf := [] }

/-- Receiving a frame: disabled under shutdown; otherwise the credit it sets fits, and the event, the credit and the
decoder's registers change. -/
theorem deliver_eq_next {c : Byte} {p : List Byte} {v : Option Int} {s t : State} :
    deliver c p v s = .next t ↔
      (s.shutdown = true ∧ t = s) ∨
      (s.shutdown = false ∧ (∀ x ∈ v, s.params.creditFits x = true) ∧ t = s.delivered c p v) := by
  unfold deliver
  by_cases hs : s.shutdown = true
  · rw [if_pos hs, next_eq_next]
    simp [hs]
  · rw [if_neg hs]
    simp only [andThen_eq_next, updateCredit_eq_next]
    simp only [Bool.not_eq_true] at hs
    constructor
    · rintro ⟨u, ⟨h1, rfl⟩, h2⟩
      cases h2
      exact .inr ⟨hs, h1, rfl⟩
    · rintro (⟨h, -⟩ | ⟨-, h1, rfl⟩)
      · simp [hs] at h
      · exact ⟨_, ⟨h1, rfl⟩, rfl⟩

/-- Receiving a frame is refused only where the credit it sets does not fit. -/
theorem deliver_eq_refused {c : Byte} {p : List Byte} {v : Option Int} {s : State} {r : Refusal} :
    deliver c p v s = .refused r ↔
      s.shutdown = false ∧ r = .creditOutOfRange ∧ ∃ x ∈ v, s.params.creditFits x = false := by
  unfold deliver
  by_cases hs : s.shutdown = true
  · simp [hs]
  · rw [if_neg hs]
    simp only [Bool.not_eq_true] at hs
    cases v with
    | none => simp [updateCredit, andThen]
    | some v => simp [updateCredit, andThen_eq_refused, setCredit_eq_refused, hs, and_comm]

/-- The state after a frame is sent. -/
def State.afterSend (s : State) (c : Byte) (p : List Byte) : State :=
  { s with
    credit := s.credit - (flen p : Int), txOut := s.txOut ++ frameBytes c p,
    answers := s.answers ++ [⟨⟨c, p⟩, .sent⟩] }

/-- What `SEND` can answer: it is rejected, or held with nothing changed, or sent on credit that covers the frame. -/
theorem send_eq_next {c : Byte} {p : List Byte} {s t : State} :
    send c p s = .next t ↔
      (s.shutdown = true ∧ t = s.respond c p (.rejected .shutDown)) ∨
      (s.shutdown = false ∧ payloadFits p = false ∧ t = s.respond c p (.rejected .tooLong)) ∨
      (sendHeld p s = true ∧ t = s) ∨
      (s.shutdown = false ∧ payloadFits p = true ∧ (flen p : Int) ≤ s.credit ∧
        s.params.creditFits (s.credit - (flen p : Int)) = true ∧ t = s.afterSend c p) := by
  unfold send
  by_cases hs : s.shutdown = true
  · rw [if_pos hs, next_eq_next]
    simp [hs, sendHeld]
  · rw [if_neg hs]
    simp only [Bool.not_eq_true] at hs
    by_cases hp : payloadFits p = true
    · by_cases hh : sendHeld p s = true
      · have hc : ¬(flen p : Int) ≤ s.credit := by
          simp only [sendHeld, Bool.and_eq_true, decide_eq_true_eq] at hh
          omega
        rw [hp, if_neg (by simp), if_pos hh, next_eq_next]
        simp [hs, hh, hc]
      · have hc : (flen p : Int) ≤ s.credit := by
          simp only [sendHeld, hs, hp, Bool.not_false, Bool.true_and, decide_eq_true_eq] at hh
          omega
        rw [hp, if_neg (by simp), if_neg hh]
        simp only [andThen_eq_next, setCredit_eq_next, next_eq_next]
        constructor
        · rintro ⟨u, ⟨h1, rfl⟩, rfl⟩
          exact .inr (.inr (.inr ⟨hs, trivial, hc, h1, rfl⟩))
        · rintro (⟨h, -⟩ | ⟨-, h, -⟩ | ⟨h, -⟩ | ⟨-, -, -, h1, rfl⟩)
          · simp [hs] at h
          · simp at h
          · exact absurd h hh
          · exact ⟨_, ⟨h1, rfl⟩, rfl⟩
    · rw [if_pos (by simpa using hp), next_eq_next]
      simp [hs, hp, sendHeld]

/-- `SEND` is refused only where the debited credit does not fit. -/
theorem send_eq_refused {c : Byte} {p : List Byte} {s : State} {r : Refusal} :
    send c p s = .refused r ↔
      s.shutdown = false ∧ payloadFits p = true ∧ (flen p : Int) ≤ s.credit ∧
        s.params.creditFits (s.credit - (flen p : Int)) = false ∧ r = .creditOutOfRange := by
  unfold send
  by_cases hs : s.shutdown = true
  · simp [hs]
  · rw [if_neg hs]
    simp only [Bool.not_eq_true] at hs
    by_cases hp : payloadFits p = true
    · by_cases hh : sendHeld p s = true
      · have hc : ¬(flen p : Int) ≤ s.credit := by
          simp only [sendHeld, Bool.and_eq_true, decide_eq_true_eq] at hh
          omega
        simp [hp, hh, hc]
      · have hc : (flen p : Int) ≤ s.credit := by
          simp only [sendHeld, hs, hp, Bool.not_false, Bool.true_and, decide_eq_true_eq] at hh
          omega
        simp [hs, hp, hh, hc, andThen_eq_refused, setCredit_eq_refused]
    · simp [hp]

/-- The meaning of a command is `SEND` of its code and payload (41_encoder.md section 3). -/
theorem exec_command {i : Instr} (h : i.direction = .hostToDongle) (s : State) :
    exec i s = send i.code i.payload s := by
  cases i <;> first | rfl | cases h

/-- The meaning of a response is the dispatch of its code and payload (43_frame_codes.md section 2). -/
theorem exec_response {i : Instr} (h : i.direction = .dongleToHost) (s : State) :
    exec i s = deliver i.code i.payload (responseCredit i.code i.payload s.credit) s := by
  cases i <;> first | rfl | cases h

/-- `SEND` of a request, whatever its code (41_encoder.md R155). -/
theorem sendRequest_eq (r : Request) (s : State) : sendRequest r s = send r.code r.payload s := by
  unfold sendRequest
  split
  · rename_i i h
    obtain ⟨hc, hp, hd⟩ := commandOf_some h
    rw [exec_command hd, hc, hp]
  · rfl

/-- The dispatch of a complete frame, whatever its code (40_decoder.md R131). -/
theorem runFrame_eq (c : Byte) (p : List Byte) (s : State) :
    runFrame c p s = deliver c p (responseCredit c p s.credit) s := by
  unfold runFrame
  split
  · rename_i i h
    obtain ⟨hc, hp, hd⟩ := responseOf_some h
    rw [exec_response hd, hc, hp]
  · rename_i h
    have h8 : c ≠ 0x08 := by rintro rfl; simp [responseOf] at h
    have h9 : c ≠ 0x09 := by rintro rfl; simp [responseOf] at h
    rw [responseCredit, if_neg h8, if_neg h9]
    rfl

end Sys2Proof.Machine
end

