-- ==== Sys2Proof/Laws/Decoder.lean ====
section
/-! SUPPORT. What one received byte can do, said once, and the first steps of a proof about `FEED`. -/

namespace Sys2Proof.Machine

@[simp] theorem feed_nil (s : State) : feed [] s = .next s := rfl

@[simp] theorem feed_cons (b : Byte) (bs : List Byte) (s : State) :
    feed (b :: bs) s = andThen (rxByte b s) (feed bs) := rfl

/-- An empty skip buffer is not flushed. -/
theorem flushSkip_of_empty {s : State} (h : s.skip = []) : s.flushSkip = s := by
  simp [State.flushSkip, h]

/-- The flush of a skip buffer: it is empty after, what it held is the one new event, and nothing else changes. -/
theorem flushSkip_eq (s : State) :
    s.flushSkip =
      { s with
        skip := [], events := s.events ++ if s.skip = [] then [] else [.skipped s.skip] } := by
  unfold State.flushSkip
  split
  · rename_i h
    cases s
    simp_all
  · rfl

/-- With an unbounded skip buffer a skipped byte is only appended. -/
theorem skipByte_of_unbounded {s : State} (h : s.params.skipCap = none) (b : Byte) :
    s.skipByte b = { s with skip := s.skip ++ [b] } := by
  simp [State.skipByte, h]

/-- A skipped byte: appended, or the one that fills a finite buffer, which is then reported whole and emptied. -/
theorem skipByte_eq (s : State) (b : Byte) :
    s.skipByte b =
      if s.params.skipCap = some (s.skip.length + 1) then
        { s with skip := [], events := s.events ++ [.skipped (s.skip ++ [b])] }
      else { s with skip := s.skip ++ [b] } := by
  simp only [State.skipByte, List.length_append, List.length_cons, List.length_nil, Nat.zero_add]
  split
  · simp [State.flushSkip, State.emit]
  · rfl

/-- The length register's value after its high byte (40_decoder.md R125). -/
theorem lenWithHi_toNat (len : Half) (b : Byte) :
    (lenWithHi len b).toNat = len.toNat % 256 + 256 * b.toNat := by
  have hb := b.isLt
  simp only [lenWithHi, BitVec.toNat_ofNat]
  omega

theorem lenWithHi_eq_zero (len : Half) (b : Byte) :
    lenWithHi len b = 0 ↔ len.toNat % 256 + 256 * b.toNat = 0 := by
  rw [← lenWithHi_toNat, ← BitVec.toNat_inj]
  rfl

@[simp] theorem skipByte_dstate (s : State) (b : Byte) : (s.skipByte b).dstate = s.dstate := by
  rw [skipByte_eq]
  split <;> rfl

@[simp] theorem skipByte_cmd (s : State) (b : Byte) : (s.skipByte b).cmd = s.cmd := by
  rw [skipByte_eq]
  split <;> rfl

@[simp] theorem skipByte_len (s : State) (b : Byte) : (s.skipByte b).len = s.len := by
  rw [skipByte_eq]
  split <;> rfl

@[simp] theorem skipByte_pbuf (s : State) (b : Byte) : (s.skipByte b).pbuf = s.pbuf := by
  rw [skipByte_eq]
  split <;> rfl

@[simp] theorem skipByte_credit (s : State) (b : Byte) : (s.skipByte b).credit = s.credit := by
  rw [skipByte_eq]
  split <;> rfl

@[simp] theorem skipByte_shutdown (s : State) (b : Byte) : (s.skipByte b).shutdown = s.shutdown := by
  rw [skipByte_eq]
  split <;> rfl

@[simp] theorem skipByte_params (s : State) (b : Byte) : (s.skipByte b).params = s.params := by
  rw [skipByte_eq]
  split <;> rfl

@[simp] theorem skipByte_rxIn (s : State) (b : Byte) : (s.skipByte b).rxIn = s.rxIn := by
  rw [skipByte_eq]
  split <;> rfl

@[simp] theorem skipByte_requests (s : State) (b : Byte) : (s.skipByte b).requests = s.requests := by
  rw [skipByte_eq]
  split <;> rfl

@[simp] theorem skipByte_schedule (s : State) (b : Byte) : (s.skipByte b).schedule = s.schedule := by
  rw [skipByte_eq]
  split <;> rfl

@[simp] theorem skipByte_txOut (s : State) (b : Byte) : (s.skipByte b).txOut = s.txOut := by
  rw [skipByte_eq]
  split <;> rfl

@[simp] theorem skipByte_answers (s : State) (b : Byte) : (s.skipByte b).answers = s.answers := by
  rw [skipByte_eq]
  split <;> rfl

/-- A sync state, its expected byte and the state after it. -/
def DState.expects : DState → Option (Byte × DState)
  | .sync0 => some (0xDE, .sync1)
  | .sync1 => some (0xAD, .sync2)
  | .sync2 => some (0xBE, .sync3)
  | .sync3 => some (0xEF, .command)
  | _ => none

/-- Everything a received byte can lead to (40_decoder.md R121 to R126). -/
theorem receive_cases (b : Byte) (s : State) :
    (∃ n, s.dstate.expects = some (b, n) ∧ s.dstate ≠ .sync3 ∧ receive b s = .going { s with dstate := n }) ∨
    (s.dstate = .sync3 ∧ b = 0xEF ∧ receive b s = .going { s.flushSkip with dstate := .command }) ∨
    (∃ e n, s.dstate.expects = some (e, n) ∧ b ≠ e ∧ receive b s = .going (s.skipByte b)) ∨
    (s.dstate = .command ∧ receive b s = .going { s with cmd := b, dstate := .lenLo }) ∨
    (s.dstate = .lenLo ∧ receive b s = .going { s with len := b.setWidth 16, dstate := .lenHi }) ∨
    (s.dstate = .lenHi ∧ lenWithHi s.len b = 0 ∧
      receive b s = .complete s.cmd [] { s with len := lenWithHi s.len b }) ∨
    (s.dstate = .lenHi ∧ lenWithHi s.len b ≠ 0 ∧
      receive b s = .going { s with len := lenWithHi s.len b, pbuf := [], dstate := .payload }) ∨
    (s.dstate = .payload ∧ s.pbuf.length + 1 = s.len.toNat ∧
      receive b s = .complete s.cmd (s.pbuf ++ [b]) { s with pbuf := s.pbuf ++ [b] }) ∨
    (s.dstate = .payload ∧ s.pbuf.length + 1 ≠ s.len.toNat ∧
      receive b s = .going { s with pbuf := s.pbuf ++ [b] }) := by
  cases hd : s.dstate with
  | sync0 =>
    by_cases hb : b = 0xDE
    · exact .inl ⟨.sync1, by rw [hb]; rfl, by simp, by simp [receive, hd, syncByte, hb]⟩
    · exact .inr (.inr (.inl ⟨0xDE, .sync1, rfl, hb, by rw [receive, hd]; exact congrArg Received.going (if_neg hb)⟩))
  | sync1 =>
    by_cases hb : b = 0xAD
    · exact .inl ⟨.sync2, by rw [hb]; rfl, by simp, by simp [receive, hd, syncByte, hb]⟩
    · exact .inr (.inr (.inl ⟨0xAD, .sync2, rfl, hb, by rw [receive, hd]; exact congrArg Received.going (if_neg hb)⟩))
  | sync2 =>
    by_cases hb : b = 0xBE
    · exact .inl ⟨.sync3, by rw [hb]; rfl, by simp, by simp [receive, hd, syncByte, hb]⟩
    · exact .inr (.inr (.inl ⟨0xBE, .sync3, rfl, hb, by rw [receive, hd]; exact congrArg Received.going (if_neg hb)⟩))
  | sync3 =>
    by_cases hb : b = 0xEF
    · exact .inr (.inl ⟨rfl, hb, by simp [receive, hd, hb]⟩)
    · exact .inr (.inr (.inl ⟨0xEF, .command, rfl, hb, by rw [receive, hd]; exact congrArg Received.going (if_neg hb)⟩))
  | command => simp [receive, hd, DState.expects]
  | lenLo => simp [receive, hd, DState.expects]
  | lenHi =>
    by_cases hl : lenWithHi s.len b = 0
    · simp [receive, hd, DState.expects, hl]
    · exact .inr (.inr (.inr (.inr (.inr (.inr (.inl ⟨rfl, hl, by rw [receive, hd]; exact if_neg hl⟩))))))
  | payload =>
    by_cases hl : s.pbuf.length + 1 = s.len.toNat
    · simp [receive, hd, DState.expects, hl]
    · simp [receive, hd, DState.expects, hl]

/-- The state a received byte leads to, before any dispatch. -/
def Received.state : Received → State
  | .going s => s
  | .complete _ _ s => s

/-- What a received byte never touches: everything but the decoder's own registers, `SKIP` and the event trace. -/
theorem receive_keeps (b : Byte) (s : State) :
    (receive b s).state.credit = s.credit ∧ (receive b s).state.shutdown = s.shutdown ∧
      (receive b s).state.params = s.params ∧ (receive b s).state.rxIn = s.rxIn ∧
      (receive b s).state.requests = s.requests ∧ (receive b s).state.schedule = s.schedule ∧
      (receive b s).state.txOut = s.txOut ∧ (receive b s).state.answers = s.answers := by
  obtain ⟨n, -, -, h⟩ | ⟨-, -, h⟩ | ⟨e, n, -, -, h⟩ | ⟨-, h⟩ | ⟨-, h⟩ | ⟨-, -, h⟩ | ⟨-, -, h⟩ | ⟨-, -, h⟩ |
    ⟨-, -, h⟩ := receive_cases b s <;> rw [h] <;> simp [Received.state, flushSkip_eq]

/-- `RX_BYTE` with reception enabled. -/
theorem rxByte_of_enabled {s : State} (h : s.shutdown = false) (b : Byte) :
    rxByte b s = (receive b s).finish := by
  rw [rxByte, if_neg (by simp [h])]

/-- A byte that is not the expected sync byte is skipped (40_decoder.md R122). -/
theorem receive_of_mismatch {s : State} {e b : Byte} {n : DState} (h : s.dstate.expects = some (e, n))
    (hb : b ≠ e) : receive b s = .going (s.skipByte b) := by
  cases hd : s.dstate <;> rw [hd] at h <;> cases h <;> (rw [receive, hd]; exact congrArg Received.going (if_neg hb))

/-- The expected byte of the first three sync states advances the position (40_decoder.md R121). -/
theorem receive_of_match {s : State} {e : Byte} {n : DState} (h : s.dstate.expects = some (e, n))
    (hn : n ≠ .command) : receive e s = .going { s with dstate := n } := by
  cases hd : s.dstate <;> rw [hd] at h <;> cases h <;>
    first | exact absurd rfl hn | (rw [receive, hd]; exact congrArg Received.going (if_pos rfl))

/-- The fourth sync byte flushes the skip buffer and enters `COMMAND` (40_decoder.md R121, R128). -/
theorem receive_of_last_sync {s : State} (h : s.dstate = .sync3) :
    receive 0xEF s = .going { s.flushSkip with dstate := .command } := by
  rw [receive, h]
  exact congrArg Received.going (if_pos rfl)

/-- The dispatch of a frame overwrites the decoder's registers whatever they hold (40_decoder.md R131). -/
theorem deliver_of_registers {c : Byte} {p : List Byte} {v : Option Int} {s : State} (hs : s.shutdown = false)
    (d : DState) (m : Byte) (l : Half) (q : List Byte) :
    deliver c p v { s with dstate := d, cmd := m, len := l, pbuf := q } = deliver c p v s := by
  cases v with
  | none => simp [deliver, hs, updateCredit, andThen, State.emit, State.toSync0]
  | some v =>
    simp only [deliver, hs, updateCredit, setCredit, State.emit]
    by_cases h : s.params.creditFits v <;> simp [h, andThen, State.toSync0]

/-- `RX_BYTE` answers: nothing under shutdown; the decoder goes on; or a complete frame is dispatched
(40_decoder.md R120, R131, R133). -/
theorem rxByte_eq_next {b : Byte} {s t : State} :
    rxByte b s = .next t ↔
      (s.shutdown = true ∧ t = s) ∨
      (s.shutdown = false ∧ receive b s = .going t) ∨
      (∃ c p u, s.shutdown = false ∧ receive b s = .complete c p u ∧
        deliver c p (responseCredit c p u.credit) u = .next t) := by
  unfold rxByte
  by_cases hs : s.shutdown = true
  · rw [if_pos hs, next_eq_next]
    simp [hs]
  · rw [if_neg hs]
    simp only [Bool.not_eq_true] at hs
    cases hr : receive b s with
    | going u => simp [hs, Received.finish]
    | complete c p u => simp [hs, Received.finish, runFrame_eq]

/-- What `RX_BYTE` never touches, a dispatch in the same step included. -/
theorem rxByte_keeps {b : Byte} {s t : State} (h : rxByte b s = .next t) :
    t.shutdown = s.shutdown ∧ t.params = s.params ∧ t.rxIn = s.rxIn ∧ t.requests = s.requests ∧
      t.schedule = s.schedule ∧ t.txOut = s.txOut ∧ t.answers = s.answers := by
  have hk := receive_keeps b s
  obtain ⟨-, rfl⟩ | ⟨-, hr⟩ | ⟨c, p, u, -, hr, hd⟩ := rxByte_eq_next.mp h
  · simp
  · rw [hr] at hk
    exact hk.2
  · rw [hr] at hk
    obtain ⟨-, rfl⟩ | ⟨-, -, rfl⟩ := deliver_eq_next.mp hd
    · exact hk.2
    · exact hk.2

end Sys2Proof.Machine
end

