-- ==== Sys2Proof/Laws/PerInstr.lean ====
section
/-! SUPPORT. Statements about every instruction as syntax, one lemma per constructor. -/

/-- The table of the instruction's direction reads its code and payload as the instruction
(30_encoding.md R100 to R102). -/
def Sys2Proof.Laws.CodeDecodes.Statement (i : Sys2Proof.Instr) : Prop :=
  Sys2Proof.frameOf i.direction i.code i.payload = some i

/-- The instruction's bytes are its seven header bytes and its payload (30_encoding.md R80, R81). -/
def Sys2Proof.Laws.HeaderLength.Statement (i : Sys2Proof.Instr) : Prop :=
  Sys2Proof.encode i = Sys2Proof.header i.code i.payload.length ++ i.payload ∧
    (Sys2Proof.encode i).length = 7 + i.payload.length

theorem Sys2Proof.Laws.CodeDecodes.cmdPttDown (p : List Sys2Proof.Byte) :
    Sys2Proof.Laws.CodeDecodes.Statement (.cmdPttDown p) := rfl

theorem Sys2Proof.Laws.CodeDecodes.cmdPttUp (p : List Sys2Proof.Byte) :
    Sys2Proof.Laws.CodeDecodes.Statement (.cmdPttUp p) := rfl

theorem Sys2Proof.Laws.CodeDecodes.cmdGroup (p : List Sys2Proof.Byte) :
    Sys2Proof.Laws.CodeDecodes.Statement (.cmdGroup p) := rfl

theorem Sys2Proof.Laws.CodeDecodes.cmdFilters (p : List Sys2Proof.Byte) :
    Sys2Proof.Laws.CodeDecodes.Statement (.cmdFilters p) := rfl

theorem Sys2Proof.Laws.CodeDecodes.cmdStop (p : List Sys2Proof.Byte) :
    Sys2Proof.Laws.CodeDecodes.Statement (.cmdStop p) := rfl

theorem Sys2Proof.Laws.CodeDecodes.cmdConfig (p : List Sys2Proof.Byte) :
    Sys2Proof.Laws.CodeDecodes.Statement (.cmdConfig p) := rfl

theorem Sys2Proof.Laws.CodeDecodes.cmdTxAudio (p : List Sys2Proof.Byte) :
    Sys2Proof.Laws.CodeDecodes.Statement (.cmdTxAudio p) := rfl

theorem Sys2Proof.Laws.CodeDecodes.cmdWindowUpdate (p : List Sys2Proof.Byte) :
    Sys2Proof.Laws.CodeDecodes.Statement (.cmdWindowUpdate p) := rfl

theorem Sys2Proof.Laws.CodeDecodes.rspDebugInfo (p : List Sys2Proof.Byte) :
    Sys2Proof.Laws.CodeDecodes.Statement (.rspDebugInfo p) := rfl

theorem Sys2Proof.Laws.CodeDecodes.rspDebugError (p : List Sys2Proof.Byte) :
    Sys2Proof.Laws.CodeDecodes.Statement (.rspDebugError p) := rfl

theorem Sys2Proof.Laws.CodeDecodes.rspDebugWarning (p : List Sys2Proof.Byte) :
    Sys2Proof.Laws.CodeDecodes.Statement (.rspDebugWarning p) := rfl

theorem Sys2Proof.Laws.CodeDecodes.rspDebugDebug (p : List Sys2Proof.Byte) :
    Sys2Proof.Laws.CodeDecodes.Statement (.rspDebugDebug p) := rfl

theorem Sys2Proof.Laws.CodeDecodes.rspDebugTrace (p : List Sys2Proof.Byte) :
    Sys2Proof.Laws.CodeDecodes.Statement (.rspDebugTrace p) := rfl

theorem Sys2Proof.Laws.CodeDecodes.rspHello (p : List Sys2Proof.Byte) :
    Sys2Proof.Laws.CodeDecodes.Statement (.rspHello p) := rfl

theorem Sys2Proof.Laws.CodeDecodes.rspRxAudio (p : List Sys2Proof.Byte) :
    Sys2Proof.Laws.CodeDecodes.Statement (.rspRxAudio p) := rfl

theorem Sys2Proof.Laws.CodeDecodes.rspVersion (p : List Sys2Proof.Byte) :
    Sys2Proof.Laws.CodeDecodes.Statement (.rspVersion p) := rfl

theorem Sys2Proof.Laws.CodeDecodes.rspWindowUpdate (p : List Sys2Proof.Byte) :
    Sys2Proof.Laws.CodeDecodes.Statement (.rspWindowUpdate p) := rfl

theorem Sys2Proof.Laws.CodeDecodes.rspPhysPttDown (p : List Sys2Proof.Byte) :
    Sys2Proof.Laws.CodeDecodes.Statement (.rspPhysPttDown p) := rfl

theorem Sys2Proof.Laws.CodeDecodes.rspPhysPttUp (p : List Sys2Proof.Byte) :
    Sys2Proof.Laws.CodeDecodes.Statement (.rspPhysPttUp p) := rfl

theorem Sys2Proof.Laws.CodeDecodes.rspSmeterReport (p : List Sys2Proof.Byte) :
    Sys2Proof.Laws.CodeDecodes.Statement (.rspSmeterReport p) := rfl

theorem Sys2Proof.Laws.HeaderLength.cmdPttDown (p : List Sys2Proof.Byte) :
    Sys2Proof.Laws.HeaderLength.Statement (.cmdPttDown p) := ⟨rfl, Sys2Proof.encode_length _⟩

theorem Sys2Proof.Laws.HeaderLength.cmdPttUp (p : List Sys2Proof.Byte) :
    Sys2Proof.Laws.HeaderLength.Statement (.cmdPttUp p) := ⟨rfl, Sys2Proof.encode_length _⟩

theorem Sys2Proof.Laws.HeaderLength.cmdGroup (p : List Sys2Proof.Byte) :
    Sys2Proof.Laws.HeaderLength.Statement (.cmdGroup p) := ⟨rfl, Sys2Proof.encode_length _⟩

theorem Sys2Proof.Laws.HeaderLength.cmdFilters (p : List Sys2Proof.Byte) :
    Sys2Proof.Laws.HeaderLength.Statement (.cmdFilters p) := ⟨rfl, Sys2Proof.encode_length _⟩

theorem Sys2Proof.Laws.HeaderLength.cmdStop (p : List Sys2Proof.Byte) :
    Sys2Proof.Laws.HeaderLength.Statement (.cmdStop p) := ⟨rfl, Sys2Proof.encode_length _⟩

theorem Sys2Proof.Laws.HeaderLength.cmdConfig (p : List Sys2Proof.Byte) :
    Sys2Proof.Laws.HeaderLength.Statement (.cmdConfig p) := ⟨rfl, Sys2Proof.encode_length _⟩

theorem Sys2Proof.Laws.HeaderLength.cmdTxAudio (p : List Sys2Proof.Byte) :
    Sys2Proof.Laws.HeaderLength.Statement (.cmdTxAudio p) := ⟨rfl, Sys2Proof.encode_length _⟩

theorem Sys2Proof.Laws.HeaderLength.cmdWindowUpdate (p : List Sys2Proof.Byte) :
    Sys2Proof.Laws.HeaderLength.Statement (.cmdWindowUpdate p) := ⟨rfl, Sys2Proof.encode_length _⟩

theorem Sys2Proof.Laws.HeaderLength.rspDebugInfo (p : List Sys2Proof.Byte) :
    Sys2Proof.Laws.HeaderLength.Statement (.rspDebugInfo p) := ⟨rfl, Sys2Proof.encode_length _⟩

theorem Sys2Proof.Laws.HeaderLength.rspDebugError (p : List Sys2Proof.Byte) :
    Sys2Proof.Laws.HeaderLength.Statement (.rspDebugError p) := ⟨rfl, Sys2Proof.encode_length _⟩

theorem Sys2Proof.Laws.HeaderLength.rspDebugWarning (p : List Sys2Proof.Byte) :
    Sys2Proof.Laws.HeaderLength.Statement (.rspDebugWarning p) := ⟨rfl, Sys2Proof.encode_length _⟩

theorem Sys2Proof.Laws.HeaderLength.rspDebugDebug (p : List Sys2Proof.Byte) :
    Sys2Proof.Laws.HeaderLength.Statement (.rspDebugDebug p) := ⟨rfl, Sys2Proof.encode_length _⟩

theorem Sys2Proof.Laws.HeaderLength.rspDebugTrace (p : List Sys2Proof.Byte) :
    Sys2Proof.Laws.HeaderLength.Statement (.rspDebugTrace p) := ⟨rfl, Sys2Proof.encode_length _⟩

theorem Sys2Proof.Laws.HeaderLength.rspHello (p : List Sys2Proof.Byte) :
    Sys2Proof.Laws.HeaderLength.Statement (.rspHello p) := ⟨rfl, Sys2Proof.encode_length _⟩

theorem Sys2Proof.Laws.HeaderLength.rspRxAudio (p : List Sys2Proof.Byte) :
    Sys2Proof.Laws.HeaderLength.Statement (.rspRxAudio p) := ⟨rfl, Sys2Proof.encode_length _⟩

theorem Sys2Proof.Laws.HeaderLength.rspVersion (p : List Sys2Proof.Byte) :
    Sys2Proof.Laws.HeaderLength.Statement (.rspVersion p) := ⟨rfl, Sys2Proof.encode_length _⟩

theorem Sys2Proof.Laws.HeaderLength.rspWindowUpdate (p : List Sys2Proof.Byte) :
    Sys2Proof.Laws.HeaderLength.Statement (.rspWindowUpdate p) := ⟨rfl, Sys2Proof.encode_length _⟩

theorem Sys2Proof.Laws.HeaderLength.rspPhysPttDown (p : List Sys2Proof.Byte) :
    Sys2Proof.Laws.HeaderLength.Statement (.rspPhysPttDown p) := ⟨rfl, Sys2Proof.encode_length _⟩

theorem Sys2Proof.Laws.HeaderLength.rspPhysPttUp (p : List Sys2Proof.Byte) :
    Sys2Proof.Laws.HeaderLength.Statement (.rspPhysPttUp p) := ⟨rfl, Sys2Proof.encode_length _⟩

theorem Sys2Proof.Laws.HeaderLength.rspSmeterReport (p : List Sys2Proof.Byte) :
    Sys2Proof.Laws.HeaderLength.Statement (.rspSmeterReport p) := ⟨rfl, Sys2Proof.encode_length _⟩
end

