-- ==== Sys2Proof/Laws/Step.lean ====
section
/-! SUPPORT. What one step can do, said once. -/

namespace Sys2Proof.Machine

/-- The state after `RESET` (70_reset_and_hazards.md R260). -/
def State.afterReset (s : State) : State :=
  { s with
    dstate := .sync0, cmd := 0, len := 0, pbuf := [], skip := [],
    credit := s.params.initCredit, shutdown := false }

/-- Everything a step can do, by the turn it takes. The state `u` is `s` with the turn spent. -/
theorem step_cases {s t : State} (h : step s = .next t) :
    (s.schedule = [] ∧ t = s) ∨
    ∃ turn ts, s.schedule = turn :: ts ∧
      ((turn = .rx ∧ ((s.rxIn = [] ∨ s.shutdown = true) ∧ t = { s with schedule := ts } ∨
          ∃ b bs, s.rxIn = b :: bs ∧ s.shutdown = false ∧
            rxByte b { s with schedule := ts, rxIn := bs } = .next t)) ∨
       (∃ k, turn = .tx k ∧ (t = { s with schedule := ts } ∧
            (∀ r ∈ s.requests[k]?, sendHeld r.payload s = true) ∨
          ∃ r, s.requests[k]? = some r ∧ sendHeld r.payload s = false ∧
            send r.code r.payload { s with schedule := ts, requests := s.requests.eraseIdx k } = .next t)) ∨
       (∃ k, turn = .withdraw k ∧ t = { s with schedule := ts, requests := s.requests.eraseIdx k }) ∨
       (turn = .shutdownReq ∧ t = { s with schedule := ts, shutdown := true }) ∨
       (turn = .reset ∧ t = { s.afterReset with schedule := ts })) := by
  unfold step nextTurn at h
  split at h
  · rename_i hs
    exact .inl ⟨hs, next_eq_next.mp h⟩
  · rename_i turn ts hs
    refine .inr ⟨turn, ts, hs, ?_⟩
    cases turn with
    | rx =>
      refine .inl ⟨rfl, ?_⟩
      simp only [takeTurn, rxTurn] at h
      split at h
      · rename_i hr
        exact .inl ⟨.inl hr, next_eq_next.mp h⟩
      · rename_i b bs hr
        split at h
        · rename_i hd
          exact .inl ⟨.inr hd, next_eq_next.mp h⟩
        · rename_i hd
          exact .inr ⟨b, bs, hr, by simpa using hd, h⟩
    | tx k =>
      refine .inr (.inl ⟨k, rfl, ?_⟩)
      simp only [takeTurn, txTurn] at h
      split at h
      · rename_i hr
        refine .inl ⟨next_eq_next.mp h, ?_⟩
        simp_all
      · rename_i r hr
        split at h
        · rename_i hh
          refine .inl ⟨next_eq_next.mp h, ?_⟩
          simp only [hr, Option.mem_some_iff, forall_eq']
          exact hh
        · rename_i hh
          rw [sendRequest_eq] at h
          exact .inr ⟨r, hr, Bool.eq_false_iff.mpr hh, h⟩
    | withdraw k => exact .inr (.inr (.inl ⟨k, rfl, next_eq_next.mp h⟩))
    | shutdownReq => exact .inr (.inr (.inr (.inl ⟨rfl, next_eq_next.mp h⟩)))
    | reset => exact .inr (.inr (.inr (.inr ⟨rfl, next_eq_next.mp h⟩)))

end Sys2Proof.Machine
end

