-- ==== Sys2Proof/Tests/Slice0.lean ====
section
/-! SUPPORT. Tests. Expected results come from the spec: its encodings (30_encoding.md R81, R101, R102) and its vectors
(95_test_vectors.md, VD, VE, VF, VK), named at each test. The last part shows, for every statement with hypotheses, concrete
values that meet them. -/

namespace Sys2Proof.Tests

open Sys2Proof.Machine

/-- What a part of the next state is, if there is one. -/
def after {α : Type} (o : Host.Outcome State Fault Refusal) (f : State → α) : Option α :=
  match o with
  | .next s => some (f s)
  | .fault _ => none
  | .refused _ => none

/-- The reset state with another decoder state. -/
def inState (d : DState) : State := { State.reset with dstate := d }

/-- The reset state with another credit. -/
def withCredit (n : Int) : State := { State.reset with credit := n }

/-- VD19's start: after RX `DE AD BE EF 07 03 00 0A`. -/
def midFrame : State := { State.reset with dstate := .payload, cmd := 0x07, len := 3, pbuf := [0x0A] }

/-- One byte in the transport and RX to move. -/
def offered (b : Byte) (s : State) : State := { s with rxIn := [b], schedule := [.rx] }

/-- One request waiting and TX to move. -/
def asked (c : Byte) (p : List Byte) (s : State) : State := { s with requests := [⟨c, p⟩], schedule := [.tx 0] }

/-- The reset state of a block whose credit register has the smallest width the spec admits (R192). -/
def narrow (n : Int) : State := { State.resetWith ⟨1024, some 34, none⟩ with credit := n }

/-- The reset state of a block whose skip buffer holds two bytes (VD17), one of them in use. -/
def capped (bs : List Byte) : State := { State.resetWith ⟨1024, none, some 2⟩ with skip := bs }

/-- The shut-down block. -/
def down (s : State) : State := { s with shutdown := true }

theorem length_zeros (n : Nat) : (List.replicate n (0 : Byte)).length = n := List.length_replicate

theorem zeros_fit_iff (n : Nat) : payloadFits (List.replicate n 0) = decide (n ≤ 65535) := by
  rw [payloadFits, length_zeros]

/-! ## WellFormed: the one check, and a term it refuses (41_encoder.md R153, VE11) -/

theorem test_payload_of_65536_bytes_is_ill_formed :
    (Instr.cmdTxAudio (List.replicate 65536 0)).wellFormed = false ∧
      (Instr.cmdTxAudio (List.replicate 65535 0)).wellFormed = true :=
  ⟨zeros_fit_iff 65536, zeros_fit_iff 65535⟩

/-! ## Decoding: one frame of every row, written out from 30_encoding.md R81, R101 and R102 -/

theorem test_decode_cmdPttDown :
    decode .hostToDongle [0xDE, 0xAD, 0xBE, 0xEF, 0x01, 0x00, 0x00] = .frame (.cmdPttDown []) [] := by decide

theorem test_decode_cmdPttUp :
    decode .hostToDongle [0xDE, 0xAD, 0xBE, 0xEF, 0x02, 0x01, 0x00, 0x5A, 0x99] = .frame (.cmdPttUp [0x5A]) [0x99] := by decide

/-- VE4. -/
theorem test_decode_cmdGroup :
    decode .hostToDongle [0xDE, 0xAD, 0xBE, 0xEF, 0x03, 0x0C, 0x00, 0x01, 0xCD, 0x8C, 0x22, 0x43, 0xCD, 0x8C, 0x22, 0x43,
        0x00, 0x04, 0x00] =
      .frame (.cmdGroup [0x01, 0xCD, 0x8C, 0x22, 0x43, 0xCD, 0x8C, 0x22, 0x43, 0x00, 0x04, 0x00]) [] := by decide

/-- VE3. -/
theorem test_decode_cmdFilters :
    decode .hostToDongle [0xDE, 0xAD, 0xBE, 0xEF, 0x04, 0x01, 0x00, 0x07] = .frame (.cmdFilters [0x07]) [] := by decide

/-- VE1. -/
theorem test_decode_cmdStop :
    decode .hostToDongle [0xDE, 0xAD, 0xBE, 0xEF, 0x05, 0x00, 0x00] = .frame (.cmdStop []) [] := by decide

/-- VE2. -/
theorem test_decode_cmdConfig :
    decode .hostToDongle [0xDE, 0xAD, 0xBE, 0xEF, 0x06, 0x01, 0x00, 0x04] = .frame (.cmdConfig [0x04]) [] := by decide

/-- VE10: a payload is not escaped. -/
theorem test_decode_cmdTxAudio :
    decode .hostToDongle [0xDE, 0xAD, 0xBE, 0xEF, 0x07, 0x04, 0x00, 0xDE, 0xAD, 0xBE, 0xEF] =
      .frame (.cmdTxAudio [0xDE, 0xAD, 0xBE, 0xEF]) [] := by decide

/-- VE5. -/
theorem test_decode_cmdWindowUpdate :
    decode .hostToDongle [0xDE, 0xAD, 0xBE, 0xEF, 0x08, 0x04, 0x00, 0x00, 0x04, 0x00, 0x00] =
      .frame (.cmdWindowUpdate [0x00, 0x04, 0x00, 0x00]) [] := by decide

/-- P1. -/
theorem test_decode_rspDebugInfo :
    decode .dongleToHost [0xDE, 0xAD, 0xBE, 0xEF, 0x01, 0x02, 0x00, 0x68, 0x69] = .frame (.rspDebugInfo [0x68, 0x69]) [] := by decide

theorem test_decode_rspDebugError :
    decode .dongleToHost [0xDE, 0xAD, 0xBE, 0xEF, 0x02, 0x00, 0x00] = .frame (.rspDebugError []) [] := by decide

theorem test_decode_rspDebugWarning :
    decode .dongleToHost [0xDE, 0xAD, 0xBE, 0xEF, 0x03, 0x00, 0x00] = .frame (.rspDebugWarning []) [] := by decide

theorem test_decode_rspDebugDebug :
    decode .dongleToHost [0xDE, 0xAD, 0xBE, 0xEF, 0x04, 0x00, 0x00] = .frame (.rspDebugDebug []) [] := by decide

theorem test_decode_rspDebugTrace :
    decode .dongleToHost [0xDE, 0xAD, 0xBE, 0xEF, 0x05, 0x00, 0x00] = .frame (.rspDebugTrace []) [] := by decide

/-- VK10: an encoded CONFIG read by the response table. -/
theorem test_decode_rspHello :
    decode .dongleToHost [0xDE, 0xAD, 0xBE, 0xEF, 0x06, 0x01, 0x00, 0x04] = .frame (.rspHello [0x04]) [] := by decide

/-- VF11. -/
theorem test_decode_rspRxAudio :
    decode .dongleToHost [0xDE, 0xAD, 0xBE, 0xEF, 0x07, 0x03, 0x00, 0x0A, 0x0B, 0x0C] =
      .frame (.rspRxAudio [0x0A, 0x0B, 0x0C]) [] := by decide

/-- VF1. -/
theorem test_decode_rspVersion :
    decode .dongleToHost [0xDE, 0xAD, 0xBE, 0xEF, 0x08, 0x08, 0x00, 0x05, 0x00, 0x4F, 0x02, 0x00, 0x04, 0x00, 0x00] =
      .frame (.rspVersion [0x05, 0x00, 0x4F, 0x02, 0x00, 0x04, 0x00, 0x00]) [] := by decide

/-- VF2. -/
theorem test_decode_rspWindowUpdate :
    decode .dongleToHost [0xDE, 0xAD, 0xBE, 0xEF, 0x09, 0x04, 0x00, 0x00, 0x02, 0x00, 0x00] =
      .frame (.rspWindowUpdate [0x00, 0x02, 0x00, 0x00]) [] := by decide

theorem test_decode_rspPhysPttDown :
    decode .dongleToHost [0xDE, 0xAD, 0xBE, 0xEF, 0x44, 0x00, 0x00] = .frame (.rspPhysPttDown []) [] := by decide

theorem test_decode_rspPhysPttUp :
    decode .dongleToHost [0xDE, 0xAD, 0xBE, 0xEF, 0x55, 0x00, 0x00] = .frame (.rspPhysPttUp []) [] := by decide

/-- VK6. -/
theorem test_decode_rspSmeterReport :
    decode .dongleToHost [0xDE, 0xAD, 0xBE, 0xEF, 0x53, 0x01, 0x00, 0x80] = .frame (.rspSmeterReport [0x80]) [] := by decide

/-- Rejections by name: no marker (VD14), a short header, a short payload, a code of no row (VD9, VE9). -/
theorem test_decode_rejects_by_name :
    decode .dongleToHost [0xEF, 0xBE, 0xAD, 0xDE, 0x06, 0x00, 0x00] = .rejected .noSync ∧
    decode .dongleToHost [0xDE, 0xAD, 0xBE, 0xEF, 0x06, 0x00] = .rejected .shortHeader ∧
    decode .dongleToHost [0xDE, 0xAD, 0xBE, 0xEF, 0x06, 0x00, 0x01] = .rejected .shortPayload ∧
    decode .dongleToHost [0xDE, 0xAD, 0xBE, 0xEF, 0x7F, 0x01, 0x00, 0xAA] = .rejected (.unknownCode 0x7F) ∧
    decode .hostToDongle [0xDE, 0xAD, 0xBE, 0xEF, 0xFF, 0x00, 0x00] = .rejected (.unknownCode 0xFF) := by decide

/-- The header words of the table (30_encoding.md R86): the response rows, and the command rows with their own reader. -/
theorem test_table_words :
    decodeTableWord 56 0xDEADBEEF060000 = some (.rspHello []) ∧
    decodeTableWord 56 0xDEADBEEF090000 = some (.rspWindowUpdate []) ∧
    decodeTableWord 56 0xDEADBEEF080300 = some (.rspVersion [0x00, 0x00, 0x00]) ∧
    decodeTableWord 56 0xDEADBEEF540000 = none ∧ decodeTableWord 56 0xDEADBEEE060000 = none ∧
    decodeCommandWord 56 0xDEADBEEF060000 = some (.cmdConfig []) ∧
    decodeCommandWord 56 0xDEADBEEF090000 = none := by decide

/-! ## Commands: one step each -/

/-- 41_encoder.md R156: `Sent`, the 7 header bytes, credit 1024 - 7. -/
theorem test_cmdPttDown_sent :
    after (exec (.cmdPttDown []) State.reset) (fun t => (t.credit, t.txOut)) =
      some (1017, [0xDE, 0xAD, 0xBE, 0xEF, 0x01, 0x00, 0x00]) := by decide

theorem test_cmdPttUp_sent :
    after (exec (.cmdPttUp []) State.reset) (fun t => (t.credit, t.txOut)) =
      some (1017, [0xDE, 0xAD, 0xBE, 0xEF, 0x02, 0x00, 0x00]) := by decide

/-- P2 step 6. -/
theorem test_cmdGroup_sent :
    after (exec (.cmdGroup [0x01, 0xCD, 0x8C, 0x22, 0x43, 0xCD, 0x8C, 0x22, 0x43, 0x00, 0x04, 0x00]) (withCredit 2040))
        (fun t => (t.credit, t.txOut)) =
      some (2021, [0xDE, 0xAD, 0xBE, 0xEF, 0x03, 0x0C, 0x00, 0x01, 0xCD, 0x8C, 0x22, 0x43, 0xCD, 0x8C, 0x22, 0x43,
        0x00, 0x04, 0x00]) := by decide

/-- P2 step 5. -/
theorem test_cmdFilters_sent :
    after (exec (.cmdFilters [0x07]) (withCredit 2048)) (fun t => (t.credit, t.txOut)) =
      some (2040, [0xDE, 0xAD, 0xBE, 0xEF, 0x04, 0x01, 0x00, 0x07]) := by decide

/-- P3 steps 4 and 6: held at credit 6, sent at credit 13. -/
theorem test_cmdStop_held_then_sent :
    after (exec (.cmdStop []) (withCredit 6)) (fun t => decide (t = withCredit 6)) = some true ∧
    after (exec (.cmdStop []) (withCredit 13)) (fun t => (t.credit, t.txOut)) =
      some (6, [0xDE, 0xAD, 0xBE, 0xEF, 0x05, 0x00, 0x00]) := by decide

/-- VF13: rejected under shutdown, with the credit untouched. -/
theorem test_cmdStop_rejected_under_shutdown :
    after (exec (.cmdStop []) (down State.reset)) (fun t => (t.credit, t.txOut, t.answers)) =
      some (1024, [], [⟨⟨0x05, []⟩, .rejected .shutDown⟩]) := by decide

/-- VF9's second command. -/
theorem test_cmdConfig_sent :
    after (exec (.cmdConfig [0x04]) (withCredit 1017)) (fun t => (t.credit, t.txOut, t.answers)) =
      some (1009, [0xDE, 0xAD, 0xBE, 0xEF, 0x06, 0x01, 0x00, 0x04], [⟨⟨0x06, [0x04]⟩, .sent⟩]) := by decide

/-- VF9's fourth command is held; VF10's edge, scaled: a frame of exactly the credit is sent. -/
theorem test_cmdTxAudio_gate :
    after (exec (.cmdTxAudio [0xAA, 0xBB]) (withCredit 2)) (fun t => (t.credit, t.answers)) = some (2, []) ∧
    after (exec (.cmdTxAudio [0xAA, 0xBB]) (withCredit 9)) (fun t => (t.credit, t.answers)) =
      some (0, [⟨⟨0x07, [0xAA, 0xBB]⟩, .sent⟩]) := by decide

/-- VE11: 65536 bytes are rejected, whatever the credit. -/
theorem test_cmdTxAudio_too_long :
    ∃ t, exec (.cmdTxAudio (List.replicate 65536 0)) (withCredit 100000) = .next t ∧ t.credit = 100000 ∧ t.txOut = [] := by
  have h : payloadFits (List.replicate 65536 0) = false := zeros_fit_iff 65536
  exact ⟨_, by simp only [exec, execCmdTxAudio, send, h]; rfl, rfl, rfl⟩

/-- VF12: the command pays and adds nothing. -/
theorem test_cmdWindowUpdate_pays :
    after (exec (.cmdWindowUpdate [0x00, 0x04, 0x00, 0x00]) State.reset) (fun t => (t.credit, t.txOut)) =
      some (1013, [0xDE, 0xAD, 0xBE, 0xEF, 0x08, 0x04, 0x00, 0x00, 0x04, 0x00, 0x00]) := by decide

/-! ## Responses: one step each (VK1, VK8: no length requirement) -/

theorem test_rspDebugInfo_frame :
    after (exec (.rspDebugInfo [0x68, 0x69]) State.reset) (·.events) = some [.frame 0x01 [0x68, 0x69] .ok] := by decide

theorem test_rspDebugError_frame :
    after (exec (.rspDebugError []) State.reset) (·.events) = some [.frame 0x02 [] .ok] := by decide

theorem test_rspDebugWarning_frame :
    after (exec (.rspDebugWarning []) State.reset) (·.events) = some [.frame 0x03 [] .ok] := by decide

theorem test_rspDebugDebug_frame :
    after (exec (.rspDebugDebug []) State.reset) (·.events) = some [.frame 0x04 [] .ok] := by decide

theorem test_rspDebugTrace_frame :
    after (exec (.rspDebugTrace []) State.reset) (·.events) = some [.frame 0x05 [] .ok] := by decide

theorem test_rspHello_frame :
    after (exec (.rspHello []) (inState .lenHi)) (fun t => decide (t =
      { State.reset with events := [.frame 0x06 [] .ok] })) = some true := by decide

/-- VF11. -/
theorem test_rspRxAudio_keeps_credit :
    after (exec (.rspRxAudio [0x0A, 0x0B, 0x0C]) State.reset) (fun t => (t.credit, t.events)) =
      some (1024, [.frame 0x07 [0x0A, 0x0B, 0x0C] .ok]) := by decide

/-- VF1: replaced, not added. -/
theorem test_rspVersion_replaces :
    after (exec (.rspVersion [0x05, 0x00, 0x4F, 0x02, 0x00, 0x04, 0x00, 0x00]) (withCredit 100))
        (fun t => (t.credit, t.events)) =
      some (1024, [.frame 0x08 [0x05, 0x00, 0x4F, 0x02, 0x00, 0x04, 0x00, 0x00] .ok]) := by decide

/-- VF4. -/
theorem test_rspVersion_of_seven_bytes :
    after (exec (.rspVersion [0x05, 0x00, 0x4F, 0x02, 0x00, 0x04, 0x00]) (withCredit 100))
        (fun t => (t.credit, t.events)) =
      some (100, [.frame 0x08 [0x05, 0x00, 0x4F, 0x02, 0x00, 0x04, 0x00] .badLen]) := by decide

/-- VF5. -/
theorem test_rspWindowUpdate_adds :
    after (exec (.rspWindowUpdate [0xFF, 0xFF, 0xFF, 0xFF]) State.reset) (·.credit) = some 4294968319 := by decide

/-- VF3. -/
theorem test_rspWindowUpdate_of_three_bytes :
    after (exec (.rspWindowUpdate [0x00, 0x02, 0x00]) State.reset) (fun t => (t.credit, t.events)) =
      some (1024, [.frame 0x09 [0x00, 0x02, 0x00] .badLen]) := by decide

theorem test_rspPhysPttDown_frame :
    after (exec (.rspPhysPttDown [0x01]) State.reset) (·.events) = some [.frame 0x44 [0x01] .ok] := by decide

theorem test_rspPhysPttUp_frame :
    after (exec (.rspPhysPttUp []) State.reset) (·.events) = some [.frame 0x55 [] .ok] := by decide

/-- VK6, VK7. -/
theorem test_rspSmeterReport_lengths :
    after (exec (.rspSmeterReport [0x80]) State.reset) (·.events) = some [.frame 0x53 [0x80] .ok] ∧
    after (exec (.rspSmeterReport [0x80, 0x81]) State.reset) (·.events) = some [.frame 0x53 [0x80, 0x81] .badLen] := by decide

/-- VK9, and the known codes beside each unknown range. -/
theorem test_classify_edges :
    (∀ c ∈ ([0x00, 0x0A, 0x43, 0x45, 0x52, 0x54, 0x56, 0x7F, 0xFF] : List Byte), classify c 0 = .unknown) ∧
    (∀ c ∈ ([0x01, 0x07, 0x44, 0x55] : List Byte), classify c 0 = .ok) ∧
    classify 0x08 8 = .ok ∧ classify 0x09 4 = .ok ∧ classify 0x53 1 = .ok ∧
    classify 0x08 0 = .badLen ∧ classify 0x09 5 = .badLen ∧ classify 0x53 0 = .badLen := by decide

/-! ## The decoder and the agents: one step each -/

/-- The next-state table of 40_decoder.md R127, both columns of every row. -/
theorem test_next_state_table :
    ∀ row ∈ ([(.sync0, 0xDE, .sync1), (.sync0, 0xAD, .sync0), (.sync1, 0xAD, .sync2), (.sync1, 0xDE, .sync1),
        (.sync2, 0xBE, .sync3), (.sync2, 0xDE, .sync2), (.sync3, 0xEF, .command), (.sync3, 0xDE, .sync3),
        (.command, 0xDE, .lenLo), (.lenLo, 0x00, .lenHi), (.lenHi, 0x00, .sync0), (.lenHi, 0x01, .payload)] :
        List (DState × Byte × DState)),
      after (rxByte row.2.1 (inState row.1)) (·.dstate) = some row.2.2 := by decide

/-- VD19: a payload byte is appended; the declared last one dispatches. -/
theorem test_payload_byte :
    after (rxByte 0x0B midFrame) (fun t => (t.pbuf, t.events)) = some ([0x0A, 0x0B], []) ∧
    after (rxByte 0x0C { midFrame with pbuf := [0x0A, 0x0B] }) (fun t => (t.pbuf, t.dstate, t.events)) =
      some ([], .sync0, [.frame 0x07 [0x0A, 0x0B, 0x0C] .ok]) := by decide

/-- VD13: a low byte of zero and a high byte of one are the length 256. -/
theorem test_length_256 :
    after (rxByte 0x01 (inState .lenHi)) (fun t => (t.dstate, t.len)) = some (.payload, 256) := by decide

/-- VD3: the position is kept and the byte is skipped; VD17: a full buffer is reported. -/
theorem test_skip :
    after (rxByte 0x41 (inState .sync2)) (fun t => (t.dstate, t.skip, t.events)) = some (.sync2, [0x41], []) ∧
    after (rxByte 0x02 (capped [0x01])) (fun t => (t.skip, t.events)) = some ([], [.skipped [0x01, 0x02]]) := by decide

/-- A word placed for the next step runs as that row, with its zero payload. -/
theorem test_placed_words_run :
    after (step (State.reset.withFetchWord 56 0xDEADBEEF060000)) (·.events) = some [.frame 0x06 [] .ok] ∧
    after (step (State.reset.withFetchWord 56 0xDEADBEEF090400)) (fun t => (t.credit, t.events)) =
      some (1024, [.frame 0x09 [0x00, 0x00, 0x00, 0x00] .ok]) := by decide

/-- P5: shutdown, a byte that stays in the transport, and a reset that discards the partial frame. -/
theorem test_host_control :
    after (step { midFrame with schedule := [.shutdownReq] }) (fun t => (t.shutdown, t.pbuf)) = some (true, [0x0A]) ∧
    after (step (offered 0x0B (down midFrame))) (fun t => (t.rxIn, t.pbuf)) = some ([0x0B], [0x0A]) ∧
    after (step { down midFrame with schedule := [.reset] }) (fun t => decide (t = State.reset)) = some true := by decide

/-- GROUP's corrected example S3, and S2. -/
theorem test_payload_layouts :
    groupBytes ⟨0x01, 0x43228CCD, 0x43228CCD, 0x00, 0x04, 0x00⟩ =
      [0x01, 0xCD, 0x8C, 0x22, 0x43, 0xCD, 0x8C, 0x22, 0x43, 0x00, 0x04, 0x00] ∧
    groupBandwidth [0x01, 0xCD, 0x8C, 0x22, 0x43, 0xCD, 0x8C, 0x22, 0x43, 0x00, 0x04, 0x00] = some .khz25 ∧
    bandwidthOf 0x00 = some .khz12_5 ∧ bandwidthOf 0x02 = none ∧
    versionFields [0x05, 0x00, 0x4F, 0x02, 0x00, 0x04, 0x00, 0x00] = some ⟨5, 0x4F, 0x02, 1024⟩ ∧
    sendConfig .vhf = ⟨0x06, [0x04]⟩ ∧ sendFilters 0x07 = ⟨0x04, [0x07]⟩ := by decide

/-! ## Hypotheses that can be met: values for each statement, and for each of its clauses -/

theorem test_hyps_EncoderLaysOutTheFrame :
    ([] : List Byte).length ≤ 65535 ∧ (List.replicate 65535 (0 : Byte)).length ≤ 65535 ∧
      [0xDE, 0xAD, 0xBE, 0xEF, 0x05, 0x00, 0x00] ∈ enc 0x05 [] := by
  refine ⟨by decide, (length_zeros 65535).le, by decide⟩

theorem test_hyps_DecodeOfEncodeIsTheFrame : (Instr.cmdConfig [0x04]).wellFormed = true := by decide

theorem test_hyps_DecodedBytesAreAnEncoding :
    decode .dongleToHost [0xDE, 0xAD, 0xBE, 0xEF, 0x53, 0x01, 0x00, 0x80, 0x13] = .frame (.rspSmeterReport [0x80]) [0x13] := by
  decide

theorem test_hyps_PayloadLayoutsReadBack :
    (0 : Nat) < 4294967296 ∧ (4294967295 : Nat) < 4294967296 ∧
    (⟨0x01, 0x43228CCD, 0x43228CCD, 0x00, 0x04, 0x00⟩ : GroupFields).bandwidth = bandwidthByte .khz25 ∧
    (⟨0x00, 0, 0, 0x00, 0x04, 0x00⟩ : GroupFields).bandwidth = bandwidthByte .khz12_5 := by decide

theorem test_hyps_UncheckedResponsesComplete :
    State.reset.shutdown = false ∧
      ∀ row ∈ [((0x01 : Byte), Instr.rspDebugInfo []), (0x02, .rspDebugError []), (0x03, .rspDebugWarning []),
        (0x04, .rspDebugDebug []), (0x05, .rspDebugTrace []), (0x06, .rspHello []), (0x07, .rspRxAudio []),
        (0x44, .rspPhysPttDown []), (0x55, .rspPhysPttUp [])], after (exec row.2 State.reset) (·.dstate) = some .sync0 := by decide

/-- The first clause with its credit at 0 (VF7) and at its largest (VF6); the second beside the length 8. -/
theorem test_hyps_VersionReplacesTheCredit :
    State.reset.shutdown = false ∧ State.reset.params.legal = true ∧ (narrow 0).params.legal = true ∧
    after (exec (.rspVersion [0x01, 0x00, 0x00, 0x00, 0x00, 0x00, 0x00, 0x00]) State.reset) (·.credit) = some 0 ∧
    after (exec (.rspVersion [0xFF, 0xFF, 0xFF, 0xFF, 0xFF, 0xFF, 0xFF, 0xFF]) (narrow 0)) (·.credit) = some 4294967295 ∧
    ([0, 0, 0, 0, 0, 0, 0] : List Byte).length ≠ 8 ∧ ([0, 0, 0, 0, 0, 0, 0, 0, 0] : List Byte).length ≠ 8 := by decide

/-- The first clause at the largest sum the smallest register holds, and with the default register (VF5). -/
theorem test_hyps_WindowUpdateAddsItsDelta :
    (narrow 4294967296).shutdown = false ∧
    (narrow 4294967296).params.creditFits ((narrow 4294967296).credit +
      ((0xFF : Byte).toNat + 256 * (0xFF : Byte).toNat + 65536 * (0xFF : Byte).toNat + 16777216 * (0xFF : Byte).toNat : Nat)) = true ∧
    State.reset.params.creditFits (State.reset.credit + 4294967295) = true ∧
    ([0, 0, 0] : List Byte).length ≠ 4 ∧ ([0, 0, 0, 0, 0] : List Byte).length ≠ 4 := by decide

theorem test_hyps_SmeterReportChecksItsLength : State.reset.shutdown = false := by decide

theorem test_hyps_DispatchIsTheRuleForEveryCode :
    (inState .payload).shutdown = false ∧ (inState .payload).params.creditW = none := by decide

/-- One more than the largest sum the smallest register holds. -/
theorem test_hyps_OverflowingWindowUpdateIsRefused :
    (narrow 4294967297).shutdown = false ∧
    (narrow 4294967297).params.creditFits ((narrow 4294967297).credit + (le32 0xFF 0xFF 0xFF 0xFF : Int)) = false := by decide

theorem test_hyps_MatchingSyncByteAdvances :
    ∀ d ∈ [DState.sync0, .sync1, .sync2, .sync3], (inState d).shutdown = false ∧ (inState d).dstate = d := by decide

theorem test_hyps_MismatchKeepsTheSyncPosition :
    (∀ k ∈ [0, 1, 2, 3], ∃ d ∈ [DState.sync0, .sync1, .sync2, .sync3],
      (inState d).shutdown = false ∧ (inState d).dstate.num = k ∧ k < 4 ∧ Config.sync[k]? ≠ some 0x41 ∧
        (inState d).params.skipCap = none) ∧
    (capped [0x01]).params.skipCap = some 2 ∧ 2 = (capped [0x01]).skip.length + 1 ∧
    (capped []).params.skipCap = some 2 ∧ 2 ≠ (capped []).skip.length + 1 := by decide

theorem test_hyps_CodeAndLowLengthBytesAreTaken :
    (inState .command).shutdown = false ∧ (inState .command).dstate = .command ∧ (inState .lenLo).dstate = .lenLo := by decide

/-- Length 0, and the smallest length with a low byte of 0. -/
theorem test_hyps_HighLengthByteDispatchesOrOpensPayload :
    (inState .lenHi).shutdown = false ∧ (inState .lenHi).dstate = .lenHi ∧
    (inState .lenHi).len.toNat % 256 + 256 * (0x00 : Byte).toNat = 0 ∧
    (inState .lenHi).len.toNat % 256 + 256 * (0x01 : Byte).toNat = 256 := by decide

/-- The last byte, and the one before it. -/
theorem test_hyps_PayloadByteIsAppendedOrDispatches :
    midFrame.shutdown = false ∧ midFrame.dstate = .payload ∧ midFrame.pbuf.length + 1 ≠ midFrame.len.toNat ∧
    ({ midFrame with pbuf := [0x0A, 0x0B] } : State).pbuf.length + 1 = midFrame.len.toNat := by decide

theorem test_hyps_NextStateTableHolds :
    State.reset.shutdown = false ∧ rxByte 0xDE State.reset = .next (inState .sync1) ∧ State.reset.params.skipCap = none :=
  ⟨rfl, rfl, rfl⟩

theorem test_hyps_StepEmitsAtMostOneEvent :
    ∃ t, step (offered 0xEF { inState .sync3 with skip := [0x41] }) = .next t ∧ t.events = [.skipped [0x41]] :=
  ⟨_, rfl, by decide⟩

theorem test_hyps_SkippedIsReportedOnlyOnRegainingSync :
    (offered 0xEF { inState .sync3 with skip := [0x41] }).params.skipCap = none ∧
    ∃ t, step (offered 0xEF { inState .sync3 with skip := [0x41] }) = .next t ∧
      t.events = (offered 0xEF { inState .sync3 with skip := [0x41] }).events ++ [.skipped [0x41]] :=
  ⟨rfl, _, rfl, by decide⟩

theorem test_hyps_MarkerLocksFromAnySyncState :
    (inState .sync3).shutdown = false ∧ (inState .sync3).dstate.num < 4 ∧ (inState .sync3).params.skipCap = none := by decide

/-- VD5. -/
theorem test_hyps_MarkerIsMatchedAsASubsequence :
    State.reset.shutdown = false ∧ State.reset.dstate = .sync0 ∧ State.reset.params.skipCap = none ∧
    (0xDE : Byte) ∉ ([] : List Byte) ∧ (0xAD : Byte) ∉ [(0x00 : Byte)] ∧ (0xBE : Byte) ∉ [(0x11 : Byte)] ∧
    (0xEF : Byte) ∉ [(0x22 : Byte)] := by decide

theorem test_hyps_DeclaredLengthIsConsumedWhole :
    midFrame.shutdown = false ∧ midFrame.dstate = .payload ∧ midFrame.pbuf.length < midFrame.len.toNat ∧
    midFrame.pbuf.length + ([0xDE, 0xAD] : List Byte).length = midFrame.len.toNat := by decide

/-- A WINDOW_UPDATE at the largest sum the smallest register holds. -/
theorem test_hyps_EncodedFrameIsDecodedBack :
    ([0xFF, 0xFF, 0xFF, 0xFF] : List Byte).length ≤ 65535 ∧
    enc 0x09 [0xFF, 0xFF, 0xFF, 0xFF] = some [0xDE, 0xAD, 0xBE, 0xEF, 0x09, 0x04, 0x00, 0xFF, 0xFF, 0xFF, 0xFF] ∧
    (narrow 4294967296).shutdown = false ∧ (narrow 4294967296).dstate = .sync0 ∧ (narrow 4294967296).params.legal = true ∧
    ∀ b0 b1 b2 b3 : Byte, (0x09 : Byte) = 0x09 → [0xFF, 0xFF, 0xFF, 0xFF] = [b0, b1, b2, b3] →
      (narrow 4294967296).params.creditFits ((narrow 4294967296).credit + (le32 b0 b1 b2 b3 : Int)) = true := by
  refine ⟨by decide, by decide, by decide, by decide, by decide, fun b0 b1 b2 b3 _ h => ?_⟩
  cases h
  decide

theorem test_hyps_ReceivingAResponseIsItsMeaning :
    (Instr.rspSmeterReport [0x80]).direction = .dongleToHost ∧ (Instr.rspSmeterReport [0x80]).wellFormed = true ∧
    State.reset.dstate = .sync0 ∧ State.reset.skip = [] := by decide

theorem test_hyps_MalformedCreditFrameChangesNothing :
    ([0, 0, 0, 0, 0, 0, 0] : List Byte).length ≠ 8 ∧ ([0, 0, 0, 0, 0] : List Byte).length ≠ 4 ∧
    ([0, 0, 0, 0, 0, 0, 0] : List Byte).length ≤ 65535 ∧ State.reset.shutdown = false ∧ State.reset.dstate = .sync0 ∧
    State.reset.skip = [] := by decide

theorem test_hyps_UnknownCodeIsReceivedWhole :
    (0x54 : Byte) ∉ ([0x01, 0x02, 0x03, 0x04, 0x05, 0x06, 0x07, 0x08, 0x09, 0x44, 0x55, 0x53] : List Byte) ∧
    ([0xAA] : List Byte).length ≤ 65535 ∧ State.reset.shutdown = false ∧ State.reset.dstate = .sync0 ∧
    State.reset.skip = [] := by decide

theorem test_hyps_LoopedBackCommandReadsAsResponse :
    (Instr.cmdConfig [0x04]).direction = .hostToDongle ∧ (Instr.cmdConfig [0x04]).wellFormed = true ∧
    State.reset.shutdown = false ∧ State.reset.dstate = .sync0 ∧ State.reset.skip = [] := by decide

/-- A WINDOW_UPDATE in progress at the largest sum the smallest register holds, and one in progress of another code. -/
theorem test_hyps_DecoderRecoversFromAnyState :
    (∃ s : State, s = { narrow 8589934336 with dstate := .payload, cmd := 0x09, len := 4, pbuf := [0xFF] } ∧
      s.inv ∧ s.shutdown = false ∧ s.params.legal = true ∧
      ∀ b0 b1 b2 b3 : Byte, s.dstate = .payload → s.cmd = 0x09 → s.len = 4 →
        s.pbuf ++ List.replicate (4 - s.pbuf.length) 0 = [b0, b1, b2, b3] →
        s.params.creditFits (s.credit + (le32 b0 b1 b2 b3 : Int)) = true) ∧
    midFrame.inv ∧ midFrame.cmd ≠ 0x09 ∧ ([] : List Byte).length ≤ 65535 := by
  refine ⟨⟨_, rfl, by decide, rfl, by decide, fun b0 b1 b2 b3 _ _ _ h => ?_⟩, by decide, by decide, by decide⟩
  cases h
  decide

theorem test_hyps_DispatchLeavesTheDecoderReset :
    (offered 0x00 (inState .lenHi)).inv ∧
    ∃ t, step (offered 0x00 (inState .lenHi)) = .next t ∧
      t.events = (offered 0x00 (inState .lenHi)).events ++ [.frame 0x00 [] .unknown] :=
  ⟨by decide, _, rfl, by decide⟩

theorem test_hyps_ShutdownDisablesReception :
    (down midFrame).shutdown = true ∧ (Instr.rspHello []).direction = .dongleToHost ∧
    (offered 0x0B (down midFrame)).schedule = .rx :: [] := by decide

/-- Credit exactly that of the frame. -/
theorem test_hyps_CoveredCommandsAreSent :
    (withCredit 8).shutdown = false ∧ ([0x04] : List Byte).length ≤ 65535 ∧
    (7 + ([0x04] : List Byte).length : Int) ≤ (withCredit 8).credit ∧
    (withCredit 8).params.creditFits (withCredit 8).credit = true := by decide

/-- Written at credit 7; rejected by shutdown, rejected as too long, held at credit 6. -/
theorem test_hyps_EveryWrittenFramePaysItsWholeLength :
    (withCredit 7).params.creditFits (withCredit 7).credit = true ∧ (withCredit 7).shutdown = false ∧
    (7 + ([] : List Byte).length : Int) ≤ (withCredit 7).credit ∧
    (withCredit 6).credit < (7 + ([] : List Byte).length : Int) ∧ (down State.reset).shutdown = true ∧
    65535 < (List.replicate 65536 (0 : Byte)).length := by
  refine ⟨by decide, by decide, by decide, by decide, by decide, (length_zeros 65536).ge⟩

/-- Credit one less than the frame. -/
theorem test_hyps_HeldCommandChangesNothing :
    (Instr.cmdConfig [0x04]).direction = .hostToDongle ∧ (Instr.cmdConfig [0x04]).wellFormed = true ∧
    (asked 0x06 [0x04] (withCredit 7)).shutdown = false ∧
    (asked 0x06 [0x04] (withCredit 7)).credit < (7 + (Instr.cmdConfig [0x04]).payload.length : Int) ∧
    (asked 0x06 [0x04] (withCredit 7)).schedule = .tx 0 :: [] ∧
    (asked 0x06 [0x04] (withCredit 7)).requests[0]? = some ⟨(Instr.cmdConfig [0x04]).code, (Instr.cmdConfig [0x04]).payload⟩ := by
  decide

theorem test_hyps_RejectedCommandsOnlyRespond :
    (Instr.cmdTxAudio (List.replicate 65536 0)).direction = .hostToDongle ∧ (down State.reset).shutdown = true ∧
    State.reset.shutdown = false ∧ 65535 < (Instr.cmdTxAudio (List.replicate 65536 0)).payload.length := by
  refine ⟨rfl, rfl, rfl, (length_zeros 65536).ge⟩

theorem test_hyps_GateNeverOverdraws :
    ∃ t, step (asked 0x05 [] (withCredit 7)) = .next t ∧ t.txOut = [0xDE, 0xAD, 0xBE, 0xEF, 0x05, 0x00, 0x00] ∧ t.credit = 0 :=
  ⟨_, rfl, by decide, by decide⟩

/-- P3 steps 5 and 6, with exactly the missing byte granted. -/
theorem test_hyps_SufficientWindowUpdateLiftsTheHold :
    (Instr.cmdStop []).direction = .hostToDongle ∧ (Instr.cmdStop []).wellFormed = true ∧
    (narrow 6).shutdown = false ∧
    (narrow 6).params.creditFits ((narrow 6).credit + (le32 0x01 0x00 0x00 0x00 : Int)) = true ∧
    (7 + (Instr.cmdStop []).payload.length : Int) - (narrow 6).credit ≤ (le32 0x01 0x00 0x00 0x00 : Int) := by decide

theorem test_hyps_SendOkSaysWhetherARequestIsSent :
    State.reset.params.creditFits State.reset.credit = true ∧ (withCredit 7).sendOk 0 = true ∧
    (withCredit 6).sendOk 0 = false := by decide

/-- Its three outcomes: kept, answered, taken back. -/
theorem test_hyps_RequestsAreAnsweredOrKept :
    after (step (asked 0x05 [] (withCredit 6))) (·.requests) = some [⟨0x05, []⟩] ∧
    after (step (asked 0x05 [] (withCredit 7))) (·.requests) = some [] ∧
    after (step { asked 0x05 [] (withCredit 6) with schedule := [.withdraw 0] }) (fun t => (t.requests, t.answers)) =
      some ([], []) := by decide

/-- A command of the table, and one of VE9's unnamed code. -/
theorem test_hyps_StepRunsThePresentedCommand :
    (asked 0x06 [0x04] State.reset).schedule = .tx 0 :: [] ∧
    (asked 0x06 [0x04] State.reset).requests[0]? = some ⟨0x06, [0x04]⟩ ∧
    sendHeld [0x04] (asked 0x06 [0x04] State.reset) = false ∧
    decode .hostToDongle (frameBytes 0x06 [0x04]) = .frame (.cmdConfig [0x04]) [] ∧
    (Instr.cmdConfig [0x04]).wellFormed = true ∧
    commandOf 0xFF [] = none ∧ sendHeld [] (asked 0xFF [] State.reset) = false ∧
    after (step (asked 0xFF [] State.reset)) (·.txOut) = some [0xDE, 0xAD, 0xBE, 0xEF, 0xFF, 0x00, 0x00] := by decide

/-- A byte that completes no frame, the last byte of an empty HELLO, and that of an unknown code (VD16). -/
theorem test_hyps_StepRunsTheReceivedResponse :
    (∃ s u : State, s = offered 0x00 { inState .lenHi with cmd := 0x06 } ∧ s.schedule = .rx :: [] ∧ s.rxIn = 0x00 :: [] ∧
      s.shutdown = false ∧ receive 0x00 { s with schedule := [], rxIn := [] } = .complete 0x06 [] u ∧
      decode .dongleToHost (frameBytes 0x06 []) = .frame (.rspHello []) [] ∧ (Instr.rspHello []).wellFormed = true) ∧
    (∃ u, receive 0x00 (inState .lenHi) = .complete 0x00 [] u) ∧
    after (step (offered 0x0B midFrame)) (fun t => (t.rxIn, t.pbuf)) = some ([], [0x0A, 0x0B]) :=
  ⟨⟨_, _, rfl, rfl, rfl, rfl, rfl, by decide, by decide⟩, ⟨_, rfl⟩, by decide⟩

theorem test_hyps_PlacedWordRunsNext :
    responseOf 0x53 (List.replicate (le16 0x01 0x00) 0) = some (.rspSmeterReport [0x00]) ∧
    responseOf 0x06 (List.replicate (le16 0x00 0x00) 0) = some (.rspHello []) := by decide

theorem test_hyps_HostControlSteps :
    ({ midFrame with schedule := [.reset] } : State).schedule = .reset :: [] ∧
    ({ midFrame with schedule := [.shutdownReq] } : State).schedule = .shutdownReq :: [] := by decide

theorem test_hyps_ResetStateIsTheTabulatedOne :
    State.reset.params.legal = true ∧ Params.legal ⟨0, some 34, some 1⟩ = true := by decide

theorem test_hyps_EveryStepKeepsTheInvariants :
    (offered 0x0B midFrame).inv ∧ ∃ t, step (offered 0x0B midFrame) = .next t ∧ t.pbuf = [0x0A, 0x0B] :=
  ⟨by decide, _, rfl, by decide⟩

theorem test_hyps_EveryStepKeepsTheBounds :
    (offered 0x02 (capped [0x01])).bounded ∧ ∃ t, step (offered 0x02 (capped [0x01])) = .next t ∧ t.skip = [] :=
  ⟨by decide, _, rfl, by decide⟩

theorem test_hyps_EveryStepKeepsTheTxStreamWhole :
    (asked 0x05 [] State.reset).txWhole ∧
    ∃ t, step (asked 0x05 [] State.reset) = .next t ∧ t.txOut = [0xDE, 0xAD, 0xBE, 0xEF, 0x05, 0x00, 0x00] :=
  ⟨by decide, _, rfl, by decide⟩

theorem test_hyps_TxStreamDecodesToTheSentFrames :
    ({ State.reset with
      txOut := [0xDE, 0xAD, 0xBE, 0xEF, 0x05, 0x00, 0x00], answers := [⟨⟨0x05, []⟩, .sent⟩] } : State).txWhole ∧
    State.reset.shutdown = false ∧ State.reset.dstate = .sync0 ∧ State.reset.skip = [] ∧
    State.reset.params.creditW = none := by decide

theorem test_hyps_NoStepStopsWithTheDefaultWidth : (offered 0x0B midFrame).params.creditW = none := by decide

/-- The last byte of a WINDOW_UPDATE of the largest delta, one over what the smallest register holds. -/
theorem test_hyps_OnlyAnOverflowingWindowUpdateIsRefused :
    ∃ s : State, s = offered 0xFF { narrow 4294967297 with dstate := .payload, cmd := 0x09, len := 4, pbuf := [0xFF, 0xFF, 0xFF] } ∧
      s.inv ∧ s.bounded ∧ step s = .refused .creditOutOfRange :=
  ⟨_, rfl, by decide, by decide, rfl⟩

theorem test_hyps_OnlyFourEventsWriteTheCredit :
    ∃ t, step (asked 0x05 [] State.reset) = .next t ∧ t.credit ≠ (asked 0x05 [] State.reset).credit :=
  ⟨_, rfl, by decide⟩

theorem test_hyps_OnlyResetLeavesShutdown :
    (asked 0x05 [] (down State.reset)).shutdown = true ∧
    (asked 0x05 [] (down State.reset)).schedule.head? = some (.tx 0) ∧
    (asked 0x05 [] (down State.reset)).requests[0]? = some ⟨0x05, []⟩ ∧
    ∃ t, step (asked 0x05 [] (down State.reset)) = .next t ∧ t.answers = [⟨⟨0x05, []⟩, .rejected .shutDown⟩] :=
  ⟨rfl, rfl, rfl, _, rfl, by decide⟩

theorem test_hyps_PathsShareOnlyCreditAndShutdown :
    (∃ t, step (asked 0x05 [] midFrame) = .next t) ∧ (asked 0x05 [] midFrame).schedule.head? = some (.tx 0) ∧
    (∃ t, step (offered 0x0B midFrame) = .next t) ∧ (offered 0x0B midFrame).schedule.head? = some .rx :=
  ⟨⟨_, rfl⟩, rfl, ⟨_, rfl⟩, rfl⟩

theorem test_hyps_DecoderIsBlindToTheSendingSide :
    State.reset.sameDecoder (withCredit 0) ∧ State.reset.shutdown = false ∧ (withCredit 0).shutdown = false ∧
    feed [0xDE] State.reset = .next (inState .sync1) ∧ ∃ t, feed [0xDE] (withCredit 0) = .next t :=
  ⟨by decide, rfl, rfl, rfl, _, rfl⟩

theorem test_hyps_CreditAccountBalancesOverRuns :
    ∃ t, runSteps 1 (asked 0x05 [] State.reset) = .next t ∧ Turn.reset ∉ (asked 0x05 [] State.reset).schedule.take 1 ∧
      t.credit = 1017 :=
  ⟨_, rfl, by decide, by decide⟩

theorem test_hyps_EveryRxByteIsAccountedForOverRuns :
    ∃ t, runSteps 1 (offered 0x41 State.reset) = .next t ∧ Turn.reset ∉ (offered 0x41 State.reset).schedule.take 1 ∧
      t.rxAccount = 1 :=
  ⟨_, rfl, by decide, by decide⟩

/-- With a byte skipped (VD2), and with none. -/
theorem test_hyps_RegainingSyncReportsTheSkippedBytes :
    (offered 0xEF { inState .sync3 with skip := [0x41] }).schedule = .rx :: [] ∧
    (offered 0xEF { inState .sync3 with skip := [0x41] }).rxIn = 0xEF :: [] ∧
    (offered 0xEF { inState .sync3 with skip := [0x41] }).shutdown = false ∧
    (offered 0xEF { inState .sync3 with skip := [0x41] }).dstate = .sync3 ∧ (offered 0xEF (inState .sync3)).skip = [] := by
  decide

/-- P3's held STOP over its steps: not lifted at credit 6 (step 3), lifted at credit 7 by the last byte of a WINDOW_UPDATE,
by that of a VERSION, by shutdown (VF13) and by a reset; and kept where another turn is spent. -/
theorem test_hyps_HoldIsLiftedOnlyByCreditShutdownOrReset :
    (withCredit 6).params.legal = true ∧ sendHeld [] (withCredit 6) = true ∧
    after (step (offered 0x00 { withCredit 0 with dstate := .payload, cmd := 0x09, len := 4, pbuf := [0x06, 0, 0] }))
      (sendHeld []) = some true ∧
    after (step (offered 0x00 { withCredit 0 with dstate := .payload, cmd := 0x09, len := 4, pbuf := [0x07, 0, 0] }))
      (sendHeld []) = some false ∧
    after (step (offered 0x00 { withCredit 6 with
      dstate := .payload, cmd := 0x08, len := 8, pbuf := [0, 0, 0, 0, 0x07, 0, 0] })) (sendHeld []) = some false ∧
    after (step { withCredit 6 with schedule := [.shutdownReq] }) (sendHeld []) = some false ∧
    after (step { withCredit 6 with schedule := [.reset] }) (sendHeld []) = some false ∧
    after (step (asked 0x05 [] (withCredit 6))) (fun t => decide (⟨0x05, []⟩ ∈ t.requests)) = some true := by decide

end Sys2Proof.Tests
end

section
/-! PROOFS. 40_decoder.md, the frame decoder: `RX_BYTE` state by state (R121 to R126), and the reception of whole
encoded frames from `SYNC0` (R136). -/

namespace Sys2Proof.Machine

/-! ### The flush of the skip buffer, field by field (R128) -/

@[simp] theorem flushSkip_skip (s : State) : s.flushSkip.skip = [] := by rw [flushSkip_eq]

@[simp] theorem flushSkip_events (s : State) : s.flushSkip.events = s.events ++ skippedEvent s.skip := by
  rw [flushSkip_eq, skippedEvent]

@[simp] theorem flushSkip_credit (s : State) : s.flushSkip.credit = s.credit := by rw [flushSkip_eq]

@[simp] theorem flushSkip_shutdown (s : State) : s.flushSkip.shutdown = s.shutdown := by rw [flushSkip_eq]

@[simp] theorem flushSkip_params (s : State) : s.flushSkip.params = s.params := by rw [flushSkip_eq]

/-! ### One received byte, in each state of the decoder -/

/-- The expected byte of `SYNC0` to `SYNC2` advances the position (R121). -/
theorem rxByte_of_match {s : State} {e : Byte} {n : DState} (hs : s.shutdown = false)
    (h : s.dstate.expects = some (e, n)) (hn : n ≠ .command) : rxByte e s = .next { s with dstate := n } := by
  rw [rxByte_of_enabled hs, receive_of_match h hn, Received.finish]

/-- The fourth sync byte flushes the skip buffer and opens the frame (R121, R128). -/
theorem rxByte_of_last_sync {s : State} (hs : s.shutdown = false) (hd : s.dstate = .sync3) :
    rxByte 0xEF s = .next { s.flushSkip with dstate := .command } := by
  rw [rxByte_of_enabled hs, receive_of_last_sync hd, Received.finish]

theorem rxByte_of_command {s : State} (hs : s.shutdown = false) (hd : s.dstate = .command) (b : Byte) :
    rxByte b s = .next { s with cmd := b, dstate := .lenLo } := by
  rw [rxByte_of_enabled hs, receive, hd]
  rfl

theorem rxByte_of_lenLo {s : State} (hs : s.shutdown = false) (hd : s.dstate = .lenLo) (b : Byte) :
    rxByte b s = .next { s with len := b.setWidth 16, dstate := .lenHi } := by
  rw [rxByte_of_enabled hs, receive, hd]
  rfl

/-- The high byte of a zero length dispatches the empty frame (R125). -/
theorem rxByte_of_lenHi_zero {s : State} {b : Byte} (hs : s.shutdown = false) (hd : s.dstate = .lenHi)
    (hn : lenWithHi s.len b = 0) :
    rxByte b s = runFrame s.cmd [] { s with len := lenWithHi s.len b } := by
  rw [rxByte_of_enabled hs, receive, hd]
  exact congrArg Received.finish (if_pos hn)

/-- The high byte of any other length opens `PAYLOAD` (R125). -/
theorem rxByte_of_lenHi_pos {s : State} {b : Byte} (hs : s.shutdown = false) (hd : s.dstate = .lenHi)
    (hn : lenWithHi s.len b ≠ 0) :
    rxByte b s = .next { s with len := lenWithHi s.len b, pbuf := [], dstate := .payload } := by
  rw [rxByte_of_enabled hs, receive, hd]
  exact congrArg Received.finish (if_neg hn)

/-- The payload byte that reaches the declared length dispatches the frame (R126). -/
theorem rxByte_of_payload_last {s : State} (hs : s.shutdown = false) (hd : s.dstate = .payload)
    (hl : s.pbuf.length + 1 = s.len.toNat) (b : Byte) :
    rxByte b s = runFrame s.cmd (s.pbuf ++ [b]) { s with pbuf := s.pbuf ++ [b] } := by
  rw [rxByte_of_enabled hs, receive, hd]
  exact congrArg Received.finish (if_pos (by simpa using hl))

/-- Any other payload byte is only appended (R126). -/
theorem rxByte_of_payload_open {s : State} (hs : s.shutdown = false) (hd : s.dstate = .payload)
    (hl : s.pbuf.length + 1 ≠ s.len.toNat) (b : Byte) :
    rxByte b s = .next { s with pbuf := s.pbuf ++ [b] } := by
  rw [rxByte_of_enabled hs, receive, hd]
  exact congrArg Received.finish (if_neg (by simpa using hl))

/-! ### The dispatch of a complete frame (R131) -/

/-- A dispatch answers the delivered frame whenever the credit it sets fits. -/
theorem runFrame_of_fits {c : Byte} {p : List Byte} {s : State} (hs : s.shutdown = false)
    (hfit : ∀ v ∈ responseCredit c p s.credit, s.params.creditFits v = true) :
    runFrame c p s = .next (s.delivered c p (responseCredit c p s.credit)) := by
  rw [runFrame_eq]
  exact deliver_eq_next.mpr (.inr ⟨hs, hfit, rfl⟩)

/-- Every dispatch with reception enabled returns to `SYNC0`. -/
theorem runFrame_dstate {c : Byte} {p : List Byte} {s t : State} (hs : s.shutdown = false)
    (h : runFrame c p s = .next t) : t.dstate = .sync0 := by
  rw [runFrame_eq] at h
  obtain ⟨hdown, -⟩ | ⟨-, -, rfl⟩ := deliver_eq_next.mp h
  · simp [hs] at hdown
  · rfl

/-- A dispatch reads none of the decoder's registers: code and payload are its arguments. -/
theorem runFrame_of_registers {c : Byte} {p : List Byte} {s : State} (hs : s.shutdown = false)
    (d : DState) (m : Byte) (l : Half) (q : List Byte) :
    runFrame c p { s with dstate := d, cmd := m, len := l, pbuf := q } = runFrame c p s := by
  rw [runFrame_eq, runFrame_eq, deliver_of_registers hs]

/-- The only frames that set the credit: a VERSION of 8 bytes, to a 32-bit value, and a WINDOW_UPDATE of 4 bytes, by
its delta (42_flow_control.md R184 to R186). -/
theorem responseCredit_eq_some {c : Byte} {p : List Byte} {credit v : Int}
    (h : responseCredit c p credit = some v) :
    (c = 0x08 ∧ p.length = 8 ∧ 0 ≤ v ∧ v < 4294967296) ∨
    (c = 0x09 ∧ ∃ b0 b1 b2 b3, p = [b0, b1, b2, b3] ∧ v = credit + (le32 b0 b1 b2 b3 : Int)) := by
  unfold responseCredit at h
  split at h
  · next hc =>
    obtain ⟨f, hf, rfl⟩ := Option.map_eq_some_iff.mp h
    unfold versionFields at hf
    split at hf
    · next b4 b5 b6 b7 =>
      cases hf
      exact .inl ⟨hc, rfl, Int.natCast_nonneg _, by exact_mod_cast le32_lt b4 b5 b6 b7⟩
    · cases hf
  · split at h
    · next hc =>
      obtain ⟨d, hd, rfl⟩ := Option.map_eq_some_iff.mp h
      unfold windowDelta at hd
      split at hd
      · next b0 b1 b2 b3 =>
        cases hd
        exact .inr ⟨hc, b0, b1, b2, b3, rfl, rfl⟩
      · cases hd
    · cases h

/-! ### Feeding the bytes of a frame -/

theorem feed_append (a b : List Byte) (s : State) : feed (a ++ b) s = andThen (feed a s) (feed b) := by
  induction a generalizing s with
  | nil => rfl
  | cons x a ih =>
    rw [List.cons_append, feed_cons, feed_cons, andThen_assoc]
    exact congrArg (andThen (rxByte x s)) (funext ih)

/-- Feeding no more bytes changes no outcome. -/
theorem andThen_feed_nil (o : Host.Outcome State Fault Refusal) : andThen o (feed []) = o := by
  cases o <;> rfl

/-- From `SYNC0` the marker leads to `COMMAND`, with the skipped bytes flushed (R121, R128). -/
theorem feed_sync {s : State} (hs : s.shutdown = false) (hd : s.dstate = .sync0) :
    feed Config.sync s = .next { s.flushSkip with dstate := .command } := by
  have h0 : rxByte 0xDE s = .next { s with dstate := .sync1 } :=
    rxByte_of_match hs (by rw [hd]; rfl) (by simp)
  have h1 : rxByte 0xAD { s with dstate := .sync1 } = .next { s with dstate := .sync2 } :=
    rxByte_of_match hs rfl (by simp)
  have h2 : rxByte 0xBE { s with dstate := .sync2 } = .next { s with dstate := .sync3 } :=
    rxByte_of_match hs rfl (by simp)
  have h3 : rxByte 0xEF { s with dstate := .sync3 } = .next { s.flushSkip with dstate := .command } := by
    rw [rxByte_of_last_sync (s := { s with dstate := .sync3 }) hs rfl, flushSkip_eq, flushSkip_eq]
  rw [Config.sync, feed_cons, h0, andThen_next, feed_cons, h1, andThen_next, feed_cons, h2, andThen_next,
    feed_cons, h3, andThen_next, feed_nil]

/-- The length register after both bytes of a length that fits holds that length (R124, R125). -/
theorem lenWithHi_length_bytes {n : Nat} (hn : n ≤ 65535) :
    (lenWithHi ((lengthLo n).setWidth 16) (lengthHi n)).toNat = n := by
  simp only [lenWithHi_toNat, lengthLo, lengthHi, BitVec.toNat_setWidth, BitVec.toNat_ofNat]
  omega

/-- In `PAYLOAD` the missing bytes, whatever they are, complete the frame, which is dispatched once (R126). -/
theorem feed_payload {s : State} {bs : List Byte} (hs : s.shutdown = false) (hd : s.dstate = .payload)
    (hopen : s.pbuf.length < s.len.toNat) (hlen : s.pbuf.length + bs.length = s.len.toNat) :
    feed bs s = runFrame s.cmd (s.pbuf ++ bs) { s with pbuf := s.pbuf ++ bs } := by
  induction bs generalizing s with
  | nil => simp only [List.length_nil] at hlen; omega
  | cons b bs ih =>
    rw [List.length_cons] at hlen
    by_cases hl : s.pbuf.length + 1 = s.len.toNat
    · obtain rfl : bs = [] := List.eq_nil_of_length_eq_zero (by omega)
      rw [feed_cons, rxByte_of_payload_last hs hd hl, andThen_feed_nil]
    · rw [feed_cons, rxByte_of_payload_open hs hd hl, andThen_next]
      have hpbuf : (s.pbuf ++ [b]).length = s.pbuf.length + 1 := List.length_append
      have hopen' : (s.pbuf ++ [b]).length < s.len.toNat := by omega
      have hlen' : (s.pbuf ++ [b]).length + bs.length = s.len.toNat := by omega
      simpa using ih (s := { s with pbuf := s.pbuf ++ [b] }) hs hd hopen' hlen'

/-- From `LEN_HI`, with the low byte of a payload's length taken, the high byte and the payload complete the frame
(R125, R126). -/
theorem feed_of_lenHi {p : List Byte} {s : State} (hp : p.length ≤ 65535) (hs : s.shutdown = false)
    (hd : s.dstate = .lenHi) (hlo : s.len = (lengthLo p.length).setWidth 16) :
    feed (lengthHi p.length :: p) s = runFrame s.cmd p s := by
  have hlen : (lenWithHi s.len (lengthHi p.length)).toNat = p.length := by
    rw [hlo, lenWithHi_length_bytes hp]
  rw [feed_cons]
  by_cases hn : lenWithHi s.len (lengthHi p.length) = 0
  · obtain rfl : p = [] := by
      rw [hn] at hlen
      exact List.eq_nil_of_length_eq_zero hlen.symm
    rw [rxByte_of_lenHi_zero hs hd hn, andThen_feed_nil]
    exact runFrame_of_registers hs _ _ _ _
  · have hpos : 0 < p.length := by
      rw [← hlen]
      exact Nat.pos_of_ne_zero fun h0 => hn (BitVec.eq_of_toNat_eq h0)
    rw [rxByte_of_lenHi_pos hs hd hn, andThen_next,
      feed_payload (s := { s with len := lenWithHi s.len (lengthHi p.length), pbuf := [], dstate := .payload })
        hs rfl (by simpa [hlen] using hpos) (by simp [hlen])]
    exact runFrame_of_registers hs _ _ _ _

/-- From `COMMAND` the rest of a frame's bytes is the dispatch of that frame (R123 to R126). -/
theorem feed_of_command {c : Byte} {p : List Byte} {s : State} (hp : p.length ≤ 65535) (hs : s.shutdown = false)
    (hd : s.dstate = .command) :
    feed (c :: lengthLo p.length :: lengthHi p.length :: p) s = runFrame c p s := by
  have hlo : rxByte (lengthLo p.length) { s with cmd := c, dstate := .lenLo } =
      .next { s with cmd := c, len := (lengthLo p.length).setWidth 16, dstate := .lenHi } :=
    rxByte_of_lenLo (s := { s with cmd := c, dstate := .lenLo }) hs rfl _
  have hrest : feed (lengthHi p.length :: p)
        { s with cmd := c, len := (lengthLo p.length).setWidth 16, dstate := .lenHi } =
      runFrame c p { s with cmd := c, len := (lengthLo p.length).setWidth 16, dstate := .lenHi } :=
    feed_of_lenHi hp hs rfl rfl
  rw [feed_cons, rxByte_of_command hs hd, andThen_next, feed_cons, hlo, andThen_next, hrest]
  exact runFrame_of_registers hs _ _ _ _

/-- Receiving the bytes of a frame from `SYNC0` is the flush of what was skipped, then the dispatch of that frame
(R131, R136). -/
theorem feed_frameBytes {c : Byte} {p : List Byte} {s : State} (hp : p.length ≤ 65535) (hs : s.shutdown = false)
    (hd : s.dstate = .sync0) : feed (frameBytes c p) s = runFrame c p s.flushSkip := by
  have hf : s.flushSkip.shutdown = false := by simpa using hs
  rw [frameBytes, header, List.append_assoc, feed_append, feed_sync hs hd, andThen_next]
  exact (feed_of_command (s := { s.flushSkip with dstate := .command }) hp hf rfl).trans
    (runFrame_of_registers hf _ _ _ _)

/-! ### The obligations -/

/-- Settles O26: reception is the flush and one dispatch (`feed_frameBytes`), whose credit fits the register. -/
theorem encodedFrameIsDecodedBack : Obligations.EncodedFrameIsDecodedBack := by
  intro c p bs s hp henc hs hd hlegal hsum
  obtain rfl : bs = frameBytes c p := by
    rw [enc, if_pos ((payloadFits_iff p).mpr hp)] at henc
    exact (Option.some.inj henc).symm
  have hfit : ∀ v ∈ responseCredit c p s.credit, s.params.creditFits v = true := by
    intro v hv
    obtain ⟨-, -, hnonneg, hlt⟩ | ⟨hc, b0, b1, b2, b3, hpay, rfl⟩ := responseCredit_eq_some hv
    · exact creditFits_field hlegal hnonneg hlt
    · exact hsum b0 b1 b2 b3 hc hpay
  refine ⟨s.flushSkip.delivered c p (responseCredit c p s.credit), ?_, ?_, rfl, flushSkip_skip s, ?_⟩
  · rw [feed_frameBytes hp hs hd, runFrame_of_fits (by simpa using hs) (by simpa using hfit), flushSkip_credit]
  · simp [State.delivered]
  · cases hv : responseCredit c p s.credit with
    | none => exact .inl (flushSkip_credit s)
    | some v =>
      obtain ⟨hc, hl, -, -⟩ | ⟨hc, b0, b1, b2, b3, rfl, -⟩ := responseCredit_eq_some hv
      · exact .inr (.inl ⟨hc, hl⟩)
      · exact .inr (.inr ⟨hc, rfl⟩)

/-- Settles O14: the sync positions are `rxByte_of_match`, and the fourth byte is the flush (R128). -/
theorem matchingSyncByteAdvances : Obligations.MatchingSyncByteAdvances := by
  intro s hs
  refine ⟨fun hd => ?_, fun hd => ?_, fun hd => ?_, fun hd => ?_⟩
  · exact rxByte_of_match hs (by rw [hd]; rfl) (by simp)
  · exact rxByte_of_match hs (by rw [hd]; rfl) (by simp)
  · exact rxByte_of_match hs (by rw [hd]; rfl) (by simp)
  · rw [rxByte_of_last_sync hs hd, flushSkip_eq, skippedEvent]

/-- Settles O16: one `RX_BYTE` rule per state. -/
theorem codeAndLowLengthBytesAreTaken : Obligations.CodeAndLowLengthBytesAreTaken :=
  fun _ b hs => ⟨fun hd => rxByte_of_command hs hd b, fun hd => rxByte_of_lenLo hs hd b⟩

/-- Settles O17: the length is `lenWithHi`, and every dispatch ends in `SYNC0`. -/
theorem highLengthByteDispatchesOrOpensPayload : Obligations.HighLengthByteDispatchesOrOpensPayload := by
  intro s b hs hd
  refine ⟨lenWithHi s.len b, lenWithHi_toNat s.len b, fun hn => ?_, rxByte_of_lenHi_pos hs hd⟩
  have hrun := rxByte_of_lenHi_zero hs hd hn
  exact ⟨hrun, fun t ht => runFrame_dstate (s := { s with len := lenWithHi s.len b }) hs (hrun ▸ ht)⟩

/-- Settles O18: the two `RX_BYTE` rules of `PAYLOAD`, by the declared length. -/
theorem payloadByteIsAppendedOrDispatches : Obligations.PayloadByteIsAppendedOrDispatches :=
  fun _ b hs hd =>
    ⟨fun hl => rxByte_of_payload_last hs hd hl b, fun hl => rxByte_of_payload_open hs hd hl b⟩

end Sys2Proof.Machine
end

section
/-! PROOFS. 41_encoder.md, the encoder: the bytes of a frame whose length fits (R151). -/

namespace Sys2Proof

/-- The encoder is defined on every payload the length field can represent (R151, R153). -/
theorem enc_of_length_le (c : Byte) {p : List Byte} (hp : p.length ≤ 65535) : enc c p = some (frameBytes c p) :=
  if_pos ((payloadFits_iff p).mpr hp)

/-- The first length byte is the low slice of the 16-bit length. -/
theorem lengthLo_eq_extractLsb (n : Nat) : lengthLo n = (BitVec.ofNat 16 n).extractLsb 7 0 := by
  apply BitVec.eq_of_toNat_eq
  simp only [lengthLo, BitVec.toNat_ofNat, BitVec.extractLsb_toNat, Nat.shiftRight_zero]
  omega

/-- The second length byte is the high slice of the 16-bit length. -/
theorem lengthHi_eq_extractLsb (n : Nat) : lengthHi n = (BitVec.ofNat 16 n).extractLsb 15 8 := by
  apply BitVec.eq_of_toNat_eq
  simp only [lengthHi, BitVec.toNat_ofNat, BitVec.extractLsb_toNat, Nat.shiftRight_eq_div_pow]
  omega

/-- Settles O2: the frame is the header and the payload, and the header's length bytes are the two slices. -/
theorem encoderLaysOutTheFrame : Obligations.EncoderLaysOutTheFrame := by
  intro c p hp
  rw [enc_of_length_le c hp]
  refine ⟨?_, fun bs hbs => ?_⟩
  · rw [← lengthLo_eq_extractLsb, ← lengthHi_eq_extractLsb]
    rfl
  · obtain rfl : frameBytes c p = bs := Option.some.inj hbs
    exact frameBytes_length c p

end Sys2Proof
end

section
/-! PROOFS. 42_flow_control.md, the credit window: how a received VERSION or WINDOW_UPDATE writes `CREDIT` (R184, R185),
and what one of the wrong length leaves alone (R186). -/

namespace Sys2Proof.Machine

/-! ### The meaning of a response and the delivered frame -/

/-- A response means the dispatch of its code and payload as a received frame (40_decoder.md R131). -/
theorem exec_eq_runFrame {i : Instr} (h : i.direction = .dongleToHost) (s : State) :
    exec i s = runFrame i.code i.payload s := by
  rw [exec_response h, runFrame_eq]

/-- A delivered frame touches nothing outside the decoder, the credit and the event trace. -/
theorem keepsRest_delivered (s : State) (c : Byte) (p : List Byte) (v : Option Int) :
    s.keepsRest (s.delivered c p v) :=
  ⟨rfl, rfl, rfl, rfl, rfl, rfl, rfl, rfl⟩

/-- A frame that sets the credit to a value the register holds is dispatched with exactly that credit. -/
theorem exec_of_credit {i : Instr} {s : State} {v : Int} (hi : i.direction = .dongleToHost)
    (hs : s.shutdown = false) (hv : responseCredit i.code i.payload s.credit = some v)
    (hfit : s.params.creditFits v = true) :
    exec i s = .next (s.delivered i.code i.payload (some v)) := by
  rw [exec_eq_runFrame hi, runFrame_of_fits hs (by simpa [hv] using hfit), hv]

/-- Every frame costs at least its header (41_encoder.md R154). -/
theorem flen_pos (q : List Byte) : 0 < flen q := Nat.add_pos_left (by decide) _

/-- Below the cost of a frame the gate holds it (R181, R183). -/
theorem sendHeld_of_credit_lt {s : State} {q : List Byte} (hs : s.shutdown = false) (hq : payloadFits q = true)
    (hlt : s.credit < (flen q : Int)) : sendHeld q s = true := by
  simp [sendHeld, hs, hq, hlt]

/-! ### Frames of the wrong length (R186) -/

/-- A VERSION or WINDOW_UPDATE whose payload has not the required length. -/
abbrev malformedCreditFrame (c : Byte) (p : List Byte) : Prop :=
  (c = 0x08 ∧ p.length ≠ 8) ∨ (c = 0x09 ∧ p.length ≠ 4)

theorem classify_of_malformed {c : Byte} {p : List Byte} (h : malformedCreditFrame c p) :
    classify c p.length = .badLen := by
  obtain ⟨rfl, hl⟩ | ⟨rfl, hl⟩ := h
  · simp [classify, knownCodes, hl]
  · simp [classify, knownCodes, hl]

theorem responseCredit_of_malformed {c : Byte} {p : List Byte} (h : malformedCreditFrame c p) (credit : Int) :
    responseCredit c p credit = none := by
  refine Option.eq_none_iff_forall_ne_some.mpr fun v hv => ?_
  obtain ⟨rfl, hlen, -, -⟩ | ⟨rfl, b0, b1, b2, b3, rfl, -⟩ := responseCredit_eq_some hv
  · simp [malformedCreditFrame, hlen] at h
  · simp [malformedCreditFrame] at h

/-- The dispatch of such a frame only reports it: no credit is computed, so no width of the register can refuse it. -/
theorem runFrame_of_malformed {c : Byte} {p : List Byte} {s : State} (h : malformedCreditFrame c p)
    (hs : s.shutdown = false) :
    ∃ t, runFrame c p s = .next t ∧ t.credit = s.credit ∧ t.events = s.events ++ [.frame c p .badLen] ∧
      t.dstate = .sync0 ∧ s.keepsRest t := by
  have hnone := responseCredit_of_malformed h s.credit
  have hrun : runFrame c p s = .next (s.delivered c p none) := by
    rw [runFrame_of_fits hs (by simp [hnone]), hnone]
  exact ⟨_, hrun, rfl, by rw [State.delivered, classify_of_malformed h], rfl, keepsRest_delivered s c p none⟩

/-! ### The obligations -/

/-- Settles O9: a 32-bit `windowSize` always fits the register (R192); other lengths are `runFrame_of_malformed`. -/
theorem versionReplacesTheCredit : Obligations.VersionReplacesTheCredit := by
  intro s p hs hlegal
  refine ⟨?_, fun hlen => ?_⟩
  · rintro b0 b1 b2 b3 b4 b5 b6 b7 rfl
    have hfit : s.params.creditFits (le32 b4 b5 b6 b7 : Int) = true :=
      creditFits_field hlegal (Int.natCast_nonneg _) (by exact_mod_cast le32_lt b4 b5 b6 b7)
    refine ⟨_, exec_of_credit rfl hs rfl hfit, rfl, rfl, rfl, keepsRest_delivered _ _ _ _, fun hzero q hq => ?_⟩
    exact sendHeld_of_credit_lt hs hq (by rw [hzero]; exact_mod_cast flen_pos q)
  · rw [exec_eq_runFrame rfl]
    exact runFrame_of_malformed (.inl ⟨rfl, hlen⟩) hs

/-- Settles O10: the delta is a natural number, so the credit never falls; other lengths are `runFrame_of_malformed`. -/
theorem windowUpdateAddsItsDelta : Obligations.WindowUpdateAddsItsDelta := by
  intro s p hs
  refine ⟨?_, fun hlen => ?_⟩
  · rintro b0 b1 b2 b3 rfl hfit
    exact ⟨_, exec_of_credit rfl hs rfl hfit, rfl, Int.le_add_of_nonneg_right (Int.natCast_nonneg _), rfl, rfl,
      keepsRest_delivered _ _ _ _⟩
  · rw [exec_eq_runFrame rfl]
    exact runFrame_of_malformed (.inr ⟨rfl, hlen⟩) hs

/-- Settles O28: with nothing skipped, reception is one dispatch (`feed_frameBytes`), here of a malformed frame. -/
theorem malformedCreditFrameChangesNothing : Obligations.MalformedCreditFrameChangesNothing := by
  intro c p s hbad hp hs hd hskip
  rw [feed_frameBytes hp hs hd, flushSkip_of_empty hskip]
  exact runFrame_of_malformed hbad hs

end Sys2Proof.Machine
end

section
/-! PROOFS. 43_frame_codes.md, the frame codes: the responses whose dispatch reports the frame and has no other effect
(R201 to R207, R210 to R212), and every code of no row (R213). -/

namespace Sys2Proof.Machine

/-! ### The tag of a code (R200) -/

/-- A known code without a required length: none of VERSION, WINDOW_UPDATE and SMETER_REPORT. -/
abbrev uncheckedCode (c : Byte) : Prop := c ∈ knownCodes ∧ c ≠ 0x08 ∧ c ≠ 0x09 ∧ c ≠ 0x53

theorem classify_of_unchecked {c : Byte} (h : uncheckedCode c) (n : Nat) : classify c n = .ok := by
  obtain ⟨hknown, h8, h9, h53⟩ := h
  rw [classify, if_neg (not_not_intro hknown), if_neg (mt And.left h8), if_neg (mt And.left h9),
    if_neg (mt And.left h53)]

theorem classify_smeterReport (n : Nat) : classify 0x53 n = if n = 1 then .ok else .badLen := by
  by_cases hn : n = 1 <;> simp [classify, knownCodes, hn]

theorem classify_of_unknown {c : Byte} (h : c ∉ knownCodes) (n : Nat) : classify c n = .unknown := if_pos h

/-! ### Frames that leave the credit alone -/

/-- Only VERSION and WINDOW_UPDATE set the credit (42_flow_control.md R191). -/
theorem responseCredit_of_ne {c : Byte} (h8 : c ≠ 0x08) (h9 : c ≠ 0x09) (p : List Byte) (credit : Int) :
    responseCredit c p credit = none := by
  rw [responseCredit, if_neg h8, if_neg h9]

/-- The dispatch of any other code only reports the frame: no credit is computed, so no width of the register can
refuse it. -/
theorem runFrame_of_ne {c : Byte} {p : List Byte} {s : State} {cls : Cls} (h8 : c ≠ 0x08) (h9 : c ≠ 0x09)
    (hs : s.shutdown = false) (hcls : classify c p.length = cls) :
    ∃ t, runFrame c p s = .next t ∧ t.events = s.events ++ [.frame c p cls] ∧ t.dstate = .sync0 ∧
      t.credit = s.credit ∧ s.keepsRest t := by
  have hnone := responseCredit_of_ne h8 h9 p s.credit
  have hrun : runFrame c p s = .next (s.delivered c p none) := by
    rw [runFrame_of_fits hs (by simp [hnone]), hnone]
  exact ⟨_, hrun, by rw [State.delivered, hcls], rfl, rfl, keepsRest_delivered s c p none⟩

/-- The meaning of a row of the response table is the dispatch of its code (40_decoder.md R131). -/
theorem runFrame_of_responseOf {c : Byte} {p : List Byte} {i : Instr} (h : responseOf c p = some i) (s : State) :
    runFrame c p s = exec i s := by
  obtain ⟨rfl, rfl, hdir⟩ := responseOf_some h
  exact (exec_eq_runFrame hdir s).symm

/-! ### The obligations -/

/-- Settles O29: with nothing skipped, reception is one dispatch (`feed_frameBytes`), here of a code of no row. -/
theorem unknownCodeIsReceivedWhole : Obligations.UnknownCodeIsReceivedWhole := by
  intro c p s hc hp hs hd hskip
  have hunknown : c ∉ knownCodes := by simpa [knownCodes, and_comm] using hc
  have h8 : c ≠ 0x08 := (ne_of_mem_of_not_mem (by decide) hunknown).symm
  have h9 : c ≠ 0x09 := (ne_of_mem_of_not_mem (by decide) hunknown).symm
  rw [feed_frameBytes hp hs hd, flushSkip_of_empty hskip]
  exact runFrame_of_ne h8 h9 hs (classify_of_unknown hunknown _)

/-- Settles O8: each of the nine rows is a row of the response table whose code has no required length. -/
theorem uncheckedResponsesComplete : Obligations.UncheckedResponsesComplete := by
  rintro s p hs ⟨c, i⟩ hrow
  obtain ⟨htable, hcode⟩ : responseOf c p = some i ∧ uncheckedCode c := by
    simp only [List.mem_cons, List.not_mem_nil, or_false, Prod.mk.injEq] at hrow
    obtain ⟨rfl, rfl⟩ | ⟨rfl, rfl⟩ | ⟨rfl, rfl⟩ | ⟨rfl, rfl⟩ | ⟨rfl, rfl⟩ | ⟨rfl, rfl⟩ | ⟨rfl, rfl⟩ | ⟨rfl, rfl⟩ |
      ⟨rfl, rfl⟩ := hrow <;> exact ⟨rfl, by decide⟩
  have hcls := classify_of_unchecked hcode p.length
  obtain ⟨-, h8, h9, -⟩ := hcode
  rw [← runFrame_of_responseOf htable]
  exact ⟨htable, runFrame_of_ne h8 h9 hs hcls⟩

/-- Settles O11: the length only decides the tag (`classify_smeterReport`). -/
theorem smeterReportChecksItsLength : Obligations.SmeterReportChecksItsLength := by
  intro s p hs
  rw [← runFrame_of_responseOf (c := 0x53) rfl]
  exact runFrame_of_ne (by decide) (by decide) hs (classify_smeterReport p.length)

end Sys2Proof.Machine
end

section
/-! PROOFS. 30_encoding.md: the whole-frame decoder and the encoder agree in both directions (section 1), the header
words and the unknown codes (sections 1 and 5), and the payload layouts read back (section 3). -/

namespace Sys2Proof

open Sys2Proof.Machine

/-! ### The tables of the two directions -/

/-- Each frame is read back from its code and payload by the table of its direction (R100 to R102). -/
theorem frameOf_self (i : Instr) : frameOf i.direction i.code i.payload = some i := by
  cases i <;> rfl

/-- What the table of a direction answers. -/
theorem frameOf_some {d : Direction} {c : Byte} {p : List Byte} {i : Instr} (h : frameOf d c p = some i) :
    i.code = c ∧ i.payload = p ∧ i.direction = d := by
  cases d with
  | hostToDongle => exact commandOf_some h
  | dongleToHost => exact responseOf_some h

/-! ### The whole-frame decoder -/

/-- A frame whose header and payload are there, whatever follows, is read by the table of the direction. -/
theorem decode_header (d : Direction) (c lo hi : Byte) {p : List Byte} (hp : p.length = le16 lo hi)
    (rest : List Byte) :
    decode d (Config.sync ++ [c, lo, hi] ++ p ++ rest) =
      (frameOf d c p).elim (.rejected (.unknownCode c)) (.frame · rest) := by
  have hlen : ¬(p ++ rest).length < le16 lo hi := by simp [← hp]
  have htake : (p ++ rest).take (le16 lo hi) = p := by rw [← hp, List.take_left]
  have hdrop : (p ++ rest).drop (le16 lo hi) = rest := by rw [← hp, List.drop_left]
  change decode d (0xDE :: 0xAD :: 0xBE :: 0xEF :: c :: lo :: hi :: (p ++ rest)) = _
  rw [decode, if_pos (show [(0xDE : Byte), 0xAD, 0xBE, 0xEF] = Config.sync from rfl), if_neg hlen, htake, hdrop]
  cases frameOf d c p <;> rfl

/-- The decoder reads what the encoder wrote, whatever the code (R80 to R87, 41_encoder.md R151). -/
theorem decode_frameBytes (d : Direction) (c : Byte) {p : List Byte} (hp : p.length ≤ 65535) (rest : List Byte) :
    decode d (frameBytes c p ++ rest) =
      (frameOf d c p).elim (.rejected (.unknownCode c)) (.frame · rest) :=
  decode_header d c _ _ (le16_length_bytes hp).symm rest

/-- Decoded bytes are the marker, the frame's code, two length bytes that say the payload's length, the payload and
the rest. -/
theorem decode_eq_frame {d : Direction} {bs rest : List Byte} {i : Instr} (h : decode d bs = .frame i rest) :
    ∃ lo hi : Byte, bs = Config.sync ++ [i.code, lo, hi] ++ i.payload ++ rest ∧
      i.payload.length = le16 lo hi ∧ i.direction = d := by
  unfold decode at h
  split at h
  · next s0 s1 s2 s3 c lo hi tail =>
    split at h
    · next hsync =>
      split at h
      · cases h
      · next hlen =>
        split at h
        · next j hj =>
          cases h
          obtain ⟨hc, hp, hd⟩ := frameOf_some hj
          refine ⟨lo, hi, ?_, ?_, hd⟩
          · rw [hc, hp, ← hsync, List.append_assoc, List.take_append_drop]
            rfl
          · rw [hp, List.length_take]
            omega
        · cases h
    · cases h
  · cases h

/-- The encoding determines code and payload. -/
theorem frameBytes_inj {c c' : Byte} {p p' : List Byte} (h : frameBytes c p = frameBytes c' p') :
    c = c' ∧ p = p' := by
  simp only [frameBytes, header, Config.sync, List.cons_append, List.nil_append, List.cons.injEq, true_and] at h
  obtain ⟨hc, -, -, hp⟩ := h
  exact ⟨hc, hp⟩

/-- Settles O3: the table of a frame's direction reads its code and payload as that frame. -/
theorem decodeOfEncodeIsTheFrame : Obligations.DecodeOfEncodeIsTheFrame := by
  intro i rest hwf
  rw [encode, decode_frameBytes _ _ ((payloadFits_iff _).mp hwf), frameOf_self]
  rfl

/-- Settles O4: the two length bytes that were read are those the encoder writes for that length. -/
theorem decodedBytesAreAnEncoding : Obligations.DecodedBytesAreAnEncoding := by
  intro d bs i rest h
  obtain ⟨lo, hi, rfl, hlen, hd⟩ := decode_eq_frame h
  refine ⟨?_, hd, (payloadFits_iff _).mpr ?_⟩
  · rw [encode, frameBytes, header, hlen, lengthLo_le16, lengthHi_le16]
  · have := le16_lt lo hi
    omega

/-- Where the decoder reads exactly the bytes of a code and payload as a frame, it is the frame of that code and
payload. -/
theorem code_payload_of_decode_frameBytes {d : Direction} {c : Byte} {p : List Byte} {i : Instr}
    (h : decode d (frameBytes c p) = .frame i []) : c = i.code ∧ p = i.payload ∧ i.direction = d := by
  obtain ⟨hbytes, hd, -⟩ := decodedBytesAreAnEncoding d _ i [] h
  rw [List.append_nil] at hbytes
  obtain ⟨hc, hp⟩ := frameBytes_inj hbytes
  exact ⟨hc, hp, hd⟩

/-! ### Header words (R86) -/

/-- The low byte of a word above the offset's bits is the byte at that offset. -/
theorem wordByte_eq {w k m high low : Nat} {b : Byte} (hm : 2 ^ (8 * (6 - k)) = m)
    (hw : w = (high * 256 + b.toNat) * m + low) (hlow : low < m) : wordByte w k = b := by
  apply BitVec.eq_of_toNat_eq
  rw [wordByte, hm, hw, BitVec.toNat_ofNat, Nat.add_comm, Nat.add_mul_div_right _ _ (by omega),
    Nat.div_eq_of_lt hlow]
  have := b.isLt
  omega

/-- The seven bytes of a header word, in transmission order (R81, R86). -/
theorem wordBytes_headerWord (c lo hi : Byte) :
    wordByte (headerWord c lo hi) 0 = 0xDE ∧ wordByte (headerWord c lo hi) 1 = 0xAD ∧
      wordByte (headerWord c lo hi) 2 = 0xBE ∧ wordByte (headerWord c lo hi) 3 = 0xEF ∧
      wordByte (headerWord c lo hi) 4 = c ∧ wordByte (headerWord c lo hi) 5 = lo ∧
      wordByte (headerWord c lo hi) 6 = hi := by
  have hlo := lo.isLt
  have hhi := hi.isLt
  obtain ⟨tail, htail⟩ : ∃ n, n = lo.toNat * 2 ^ 8 + hi.toNat := ⟨_, rfl⟩
  obtain ⟨rest, hrest⟩ : ∃ n, n = c.toNat * 2 ^ 16 + tail := ⟨_, rfl⟩
  have htail_lt : tail < 2 ^ 16 := by omega
  have hrest_lt : rest < 2 ^ 24 := by have := c.isLt; omega
  have hw : headerWord c lo hi = 0xDEADBEEF * 2 ^ 24 + rest := by
    rw [headerWord, hrest, htail]
    omega
  rw [hw]
  refine ⟨?_, ?_, ?_, ?_, ?_, ?_, ?_⟩
  · exact wordByte_eq (high := 0) (low := 0xADBEEF * 2 ^ 24 + rest) rfl (by simp; omega) (by omega)
  · exact wordByte_eq (high := 0xDE) (low := 0xBEEF * 2 ^ 24 + rest) rfl (by simp; omega) (by omega)
  · exact wordByte_eq (high := 0xDEAD) (low := 0xEF * 2 ^ 24 + rest) rfl (by simp; omega) (by omega)
  · exact wordByte_eq (high := 0xDEADBE) (low := rest) rfl (by simp) hrest_lt
  · exact wordByte_eq (high := 0xDEADBEEF) (low := tail) rfl (by omega) htail_lt
  · exact wordByte_eq (high := 0xDEADBEEF * 2 ^ 8 + c.toNat) (low := hi.toNat) rfl (by omega) hhi
  · exact wordByte_eq (high := (0xDEADBEEF * 2 ^ 8 + c.toNat) * 2 ^ 8 + lo.toNat) (low := 0) rfl (by omega) (by simp)

/-- The bytes of a header word's frame: the marker, code and length bytes, and the zeros they announce. -/
theorem tableBytes_headerWord (c lo hi : Byte) :
    tableBytes (headerWord c lo hi) = Config.sync ++ [c, lo, hi] ++ List.replicate (le16 lo hi) 0 := by
  obtain ⟨h0, h1, h2, h3, h4, h5, h6⟩ := wordBytes_headerWord c lo hi
  simp [tableBytes, List.range_succ, h0, h1, h2, h3, h4, h5, h6, Config.sync]

/-- What the decoder makes of a header word's frame, in either direction. -/
theorem decode_tableBytes (d : Direction) (c lo hi : Byte) :
    decode d (tableBytes (headerWord c lo hi)) =
      (frameOf d c (List.replicate (le16 lo hi) 0)).elim (.rejected (.unknownCode c)) (.frame · []) := by
  have h := decode_header d c lo hi (p := List.replicate (le16 lo hi) 0) List.length_replicate []
  rwa [List.append_nil, ← tableBytes_headerWord] at h

/-- The mask of R86 keeps the marker and the code and clears the two length bytes. -/
theorem headerWord_mask (c lo hi : Byte) :
    headerWord c lo hi &&& 0xFFFFFFFFFF0000 = 0xDEADBEEF000000 + c.toNat * 2 ^ 16 := by
  have hc := c.isLt
  have hlo := lo.isLt
  have hhi := hi.isLt
  have hw : headerWord c lo hi = 2 ^ 16 * (0xDEADBEEF00 + c.toNat) + (lo.toNat * 2 ^ 8 + hi.toNat) := by
    simp only [headerWord]
    omega
  have hhigh : (headerWord c lo hi &&& 0xFFFFFFFFFF0000) / 2 ^ 16 = 0xDEADBEEF00 + c.toNat := by
    have hmask : (0xFFFFFFFFFF0000 : Nat) / 2 ^ 16 = 2 ^ 40 - 1 := by decide
    rw [Nat.and_div_two_pow, hmask, Nat.and_two_pow_sub_one_eq_mod]
    omega
  have hlow : (headerWord c lo hi &&& 0xFFFFFFFFFF0000) % 2 ^ 16 = 0 := by
    have hmask : (0xFFFFFFFFFF0000 : Nat) % 2 ^ 16 = 0 := by decide
    rw [Nat.and_mod_two_pow, hmask, Nat.and_zero]
  omega

/-- Settles O5: the word's frame is decoded by the table of each direction (`decode_tableBytes`). -/
theorem headerWordsDecodeByTheTable : Obligations.HeaderWordsDecodeByTheTable := by
  intro c lo hi
  refine ⟨headerWord_mask c lo hi, ?_, ?_⟩
  · rw [decodeTableWord, if_pos rfl, decode_tableBytes, frameOf]
    cases responseOf c (List.replicate (le16 lo hi) 0) <;> rfl
  · rw [decodeCommandWord, if_pos rfl, decode_tableBytes, frameOf]
    cases commandOf c (List.replicate (le16 lo hi) 0) <;> rfl

/-- Settles O1: the written bytes are closed terms, which the decoder evaluates. -/
theorem writtenHeadersDecodeToTheirRows : Obligations.WrittenHeadersDecodeToTheirRows := by
  unfold Obligations.WrittenHeadersDecodeToTheirRows
  decide

end Sys2Proof

namespace Sys2Proof.Machine

/-! ### The unknown codes (section 5) -/

/-- A code is tagged unknown exactly when it is no code of the response table, whatever the length. -/
theorem classify_eq_unknown_iff (c : Byte) (n : Nat) : classify c n = .unknown ↔ c ∉ knownCodes := by
  refine ⟨fun h hknown => ?_, fun h => classify_of_unknown h n⟩
  rw [classify, if_neg (not_not_intro hknown)] at h
  split_ifs at h

/-- A table has no row for a code when this row is another's and the rows after it have none. -/
theorem ite_some_eq_none_iff {q : Prop} [Decidable q] {x : Instr} {o : Option Instr} :
    (if q then some x else o) = none ↔ ¬q ∧ o = none := by
  split_ifs with h <;> simp [h]

theorem responseOf_eq_none_iff (c : Byte) (p : List Byte) : responseOf c p = none ↔ c ∉ knownCodes := by
  simp only [responseOf, ite_some_eq_none_iff, knownCodes, List.mem_cons, List.not_mem_nil, or_false, not_or,
    and_true]
  tauto

/-- The codes outside the response table, by value. -/
theorem not_mem_knownCodes_iff (c : Byte) :
    c ∉ knownCodes ↔
      c.toNat = 0 ∨ (0x0A ≤ c.toNat ∧ c.toNat ≤ 0x43) ∨ (0x45 ≤ c.toNat ∧ c.toNat ≤ 0x52) ∨ c.toNat = 0x54 ∨
        0x56 ≤ c.toNat := by
  simp [knownCodes, ← BitVec.toNat_inj]
  omega

/-- The other byte values are the twelve codes of the table, so 256 - 12 are unknown. -/
theorem unknown_count :
    ((List.range 256).filter fun n => decide (classify (BitVec.ofNat 8 n) 0 = .unknown)).length = 244 := by
  have hknown : ((List.range 256).filter fun n => !decide (classify (BitVec.ofNat 8 n) 0 = .unknown)).Perm
      [1, 2, 3, 4, 5, 6, 7, 8, 9, 0x44, 0x53, 0x55] := by
    refine (List.perm_ext_iff_of_nodup (List.nodup_range.filter _) (by decide)).mpr fun n => ?_
    simp only [List.mem_filter, List.mem_range, Bool.not_eq_true', decide_eq_false_iff_not, classify_eq_unknown_iff,
      not_mem_knownCodes_iff, BitVec.toNat_ofNat, List.mem_cons, List.not_mem_nil, or_false]
    omega
  have hsplit := List.length_eq_length_filter_add (l := List.range 256)
    fun n => decide (classify (BitVec.ofNat 8 n) 0 = .unknown)
  rw [hknown.length_eq, List.length_range] at hsplit
  simp only [List.length_cons, List.length_nil] at hsplit
  omega

/-- Settles O6: unknown means outside the twelve codes of the table. -/
theorem unknownResponseCodesAreThe244Listed : Obligations.UnknownResponseCodesAreThe244Listed := by
  refine ⟨fun c n p => ⟨?_, ?_⟩, ?_⟩
  · rw [classify_eq_unknown_iff, responseOf_eq_none_iff]
  · rw [classify_eq_unknown_iff, not_mem_knownCodes_iff]
  · exact unknown_count

/-! ### Payload layouts (section 3) -/

/-- Four bytes written least significant first are read back (R89, R91). -/
theorem le32_bytes32 {v : Nat} (hv : v < 4294967296) :
    le32 (BitVec.ofNat 8 v) (BitVec.ofNat 8 (v / 256)) (BitVec.ofNat 8 (v / 65536))
      (BitVec.ofNat 8 (v / 16777216)) = v := by
  simp only [le32, BitVec.toNat_ofNat]
  omega

theorem windowDelta_bytes32 {v : Nat} (hv : v < 4294967296) : windowDelta (bytes32 v) = some v :=
  congrArg some (le32_bytes32 hv)

theorem versionFields_bytes32 (v0 v1 st hw : Byte) {w : Nat} (hlt : w < 4294967296) :
    versionFields ([v0, v1, st, hw] ++ bytes32 w) = some ⟨le16 v0 v1, st, hw, w⟩ :=
  congrArg (fun x => some (⟨le16 v0 v1, st, hw, x⟩ : VersionFields)) (le32_bytes32 hlt)

/-- A 32-bit field of a GROUP payload holds the exact value of its four bytes (R93). -/
theorem ofNat_le32_toNat (b0 b1 b2 b3 : Byte) :
    (BitVec.ofNat 32 (le32 b0 b1 b2 b3)).toNat = le32 b0 b1 b2 b3 := by
  rw [BitVec.toNat_ofNat, Nat.mod_eq_of_lt (le32_lt b0 b1 b2 b3)]

/-- A host's GROUP payload is read back field by field (R93). -/
theorem groupFields_groupBytes (g : GroupFields) : groupFields (groupBytes g) = some g := by
  have h32 : ∀ x : BitVec 32, BitVec.ofNat 32 (le32 (BitVec.ofNat 8 x.toNat) (BitVec.ofNat 8 (x.toNat / 256))
      (BitVec.ofNat 8 (x.toNat / 65536)) (BitVec.ofNat 8 (x.toNat / 16777216))) = x := fun x => by
    rw [le32_bytes32 x.isLt, BitVec.ofNat_toNat, BitVec.setWidth_eq]
  obtain ⟨bw, tx, rx, tt, sq, rt⟩ := g
  simp only [groupBytes, bytes32, List.cons_append, List.nil_append, groupFields, h32]

/-- The defined values of the `bandwidth` byte (R93). -/
theorem bandwidthOf_eq_some_iff (m : Byte) (b : Bandwidth) :
    bandwidthOf m = some b ↔ (m = 0x00 ∧ bandwidthHertz b = 12500) ∨ (m = 0x01 ∧ bandwidthHertz b = 25000) := by
  unfold bandwidthOf
  cases b with
  | khz12_5 => split_ifs <;> simp_all [bandwidthHertz]
  | khz25 => split_ifs <;> simp_all [bandwidthHertz]

theorem bandwidthOf_bandwidthByte (b : Bandwidth) : bandwidthOf (bandwidthByte b) = some b := by
  cases b <;> rfl

theorem groupBandwidth_groupBytes {g : GroupFields} {b : Bandwidth} (h : g.bandwidth = bandwidthByte b) :
    groupBandwidth (groupBytes g) = some b := by
  rw [groupBandwidth, groupFields_groupBytes, Option.bind_some, h, bandwidthOf_bandwidthByte]

/-- Bit `k` of a byte, as arithmetic on its value. -/
theorem getLsbD_iff_toNat (m : Byte) (k : Nat) : m.getLsbD k = true ↔ m.toNat / 2 ^ k % 2 = 1 := by
  rw [BitVec.getLsbD, Nat.testBit_eq_decide_div_mod_eq, decide_eq_true_iff]

theorem filterFields_filterByte (f : FilterFields) : filterFields [filterByte f] = some f := by
  obtain ⟨pre, high, low⟩ := f
  cases pre <;> cases high <;> cases low <;> rfl

/-- The defined values of a CONFIG payload (R95). -/
theorem configBand_eq_some_iff (m : Byte) (b : Band) :
    configBand [m] = some b ↔ (m = 0x04 ∧ b = .vhf) ∨ (m = 0x05 ∧ b = .uhf) := by
  simp only [configBand]
  cases b with
  | vhf => split_ifs <;> simp_all
  | uhf => split_ifs <;> simp_all

theorem configBand_bandByte (b : Band) : configBand [bandByte b] = some b := by
  cases b <;> rfl

/-- Settles O7: one lemma per layout. -/
theorem payloadLayoutsReadBack : Obligations.PayloadLayoutsReadBack := by
  refine ⟨fun _ _ _ _ => rfl, fun v hv => windowDelta_bytes32 hv,
    fun v0 v1 st hw w hlt => versionFields_bytes32 v0 v1 st hw hlt, ?_, fun g => ⟨groupFields_groupBytes g, rfl⟩,
    bandwidthOf_eq_some_iff, fun _ _ h => groupBandwidth_groupBytes h, ?_, filterFields_filterByte,
    configBand_eq_some_iff, configBand_bandByte, fun _ => rfl⟩
  · intro bw t0 t1 t2 t3 r0 r1 r2 r3 tt sq rt
    exact ⟨_, rfl, rfl, ofNat_le32_toNat t0 t1 t2 t3, ofNat_le32_toNat r0 r1 r2 r3, rfl, rfl, rfl⟩
  · intro m
    exact ⟨_, rfl, by simpa using getLsbD_iff_toNat m 0, getLsbD_iff_toNat m 1, getLsbD_iff_toNat m 2⟩

end Sys2Proof.Machine
end

section
/-! PROOFS. 41_encoder.md section 2 and 42_flow_control.md section 2: when a `SEND` is written, rejected or held, and what
it then writes. -/

namespace Sys2Proof.Machine

/-! ### The four answers of `SEND` (41_encoder.md R152) -/

section

variable {c : Byte} {p : List Byte} {s : State}

theorem send_of_shutdown (hs : s.shutdown = true) : send c p s = .next (s.respond c p (.rejected .shutDown)) :=
  send_eq_next.mpr (.inl ⟨hs, rfl⟩)

theorem send_of_tooLong (hs : s.shutdown = false) (hp : payloadFits p = false) :
    send c p s = .next (s.respond c p (.rejected .tooLong)) :=
  send_eq_next.mpr (.inr (.inl ⟨hs, hp, rfl⟩))

theorem send_of_held (hh : sendHeld p s = true) : send c p s = .next s :=
  send_eq_next.mpr (.inr (.inr (.inl ⟨hh, rfl⟩)))

/-- A frame that the credit covers is sent: what is left of a credit that fits the register fits it too. -/
theorem send_of_covered (hs : s.shutdown = false) (hp : payloadFits p = true) (hc : (flen p : Int) ≤ s.credit)
    (hfit : s.params.creditFits s.credit = true) : send c p s = .next (s.afterSend c p) := by
  have hpaid : s.params.creditFits (s.credit - (flen p : Int)) = true :=
    creditFits_down hfit (by omega) (by omega)
  exact send_eq_next.mpr (.inr (.inr (.inr ⟨hs, hp, hc, hpaid, rfl⟩)))

end

/-- A frame's cost, its payload in bytes and the header's seven (41_encoder.md R154). -/
theorem flen_cast (p : List Byte) : (flen p : Int) = 7 + p.length := by
  simp [flen]

theorem payloadFits_eq_false_iff (p : List Byte) : payloadFits p = false ↔ 65535 < p.length := by
  simp [payloadFits]

/-- A request is not held when it can be answered: shutdown and excess length reject it, and enough credit sends it. -/
theorem sendHeld_eq_false_iff (p : List Byte) (s : State) :
    sendHeld p s = false ↔ s.shutdown = true ∨ payloadFits p = false ∨ (flen p : Int) ≤ s.credit := by
  simp only [sendHeld, Bool.and_eq_false_iff, Bool.not_eq_false', decide_eq_false_iff_not, not_lt, or_assoc]

/-- A held request is no rejected one, and its frame exceeds the credit. -/
theorem sendHeld_iff (p : List Byte) (s : State) :
    sendHeld p s = true ↔ s.shutdown = false ∧ payloadFits p = true ∧ s.credit < (flen p : Int) := by
  simp only [sendHeld, Bool.and_eq_true, Bool.not_eq_true', decide_eq_true_iff, and_assoc]

/-- `SEND_OK` compares the credit with the cost of the frame (10_state.md R30). -/
theorem sendOk_iff (n : Nat) (s : State) :
    s.sendOk n = true ↔ s.shutdown = false ∧ n ≤ 65535 ∧ (7 + n : Int) ≤ s.credit := by
  simp [State.sendOk, and_assoc]

/-- A covered command is its frame written and paid for, and the answer `Sent`. -/
theorem exec_command_of_covered {i : Instr} {s : State} (hi : i.direction = .hostToDongle)
    (hwf : i.wellFormed = true) (hs : s.shutdown = false) (hc : (flen i.payload : Int) ≤ s.credit)
    (hfit : s.params.creditFits s.credit = true) : exec i s = .next (s.afterSend i.code i.payload) := by
  rw [exec_command hi, send_of_covered hs hwf hc hfit]

/-! ### A TX turn -/

/-- A TX turn whose request is held only spends the turn (42_flow_control.md R183). -/
theorem step_of_held {s : State} {k : Nat} {ts : List Turn} {r : Request} (hsched : s.schedule = .tx k :: ts)
    (hr : s.requests[k]? = some r) (hh : sendHeld r.payload s = true) : step s = .next { s with schedule := ts } := by
  have hh' : sendHeld r.payload { s with schedule := ts } = true := hh
  simp only [step, nextTurn, hsched, takeTurn, txTurn, hr, hh', if_true]

/-- A TX turn whose request is not held is the `SEND` of that request, which leaves the host's list. -/
theorem step_of_presented {s : State} {k : Nat} {ts : List Turn} {r : Request} (hsched : s.schedule = .tx k :: ts)
    (hr : s.requests[k]? = some r) (hh : sendHeld r.payload s = false) :
    step s = sendRequest r { s with schedule := ts, requests := s.requests.eraseIdx k } := by
  have hh' : sendHeld r.payload { s with schedule := ts } = false := hh
  simp only [step, nextTurn, hsched, takeTurn, txTurn, hr, hh', Bool.false_eq_true, if_false]

/-! ### The obligations -/

/-- Settles O34: each of the eight rows is a row of the command table, whose meaning is `SEND`. -/
theorem coveredCommandsAreSent : Obligations.CoveredCommandsAreSent := by
  rintro s p hs hp hc hfit ⟨c, i⟩ hrow
  have htable : commandOf c p = some i := by
    simp only [List.mem_cons, List.not_mem_nil, or_false, Prod.mk.injEq] at hrow
    obtain ⟨rfl, rfl⟩ | ⟨rfl, rfl⟩ | ⟨rfl, rfl⟩ | ⟨rfl, rfl⟩ | ⟨rfl, rfl⟩ | ⟨rfl, rfl⟩ | ⟨rfl, rfl⟩ | ⟨rfl, rfl⟩ :=
      hrow <;> rfl
  obtain ⟨rfl, rfl, hi⟩ := commandOf_some htable
  have hsent := exec_command_of_covered hi ((payloadFits_iff _).mpr hp) hs (by rwa [flen_cast]) hfit
  rw [State.afterSend, flen_cast] at hsent
  exact ⟨htable, hsent⟩

/-- Settles O35: a covered frame is sent, and each of the three causes rejects or holds it. -/
theorem everyWrittenFramePaysItsWholeLength : Obligations.EveryWrittenFramePaysItsWholeLength := by
  intro c p s hfit
  simp only [sendRequest_eq, ← flen_cast]
  refine ⟨fun hs hp hc => ?_, fun hno => ?_⟩
  · refine ⟨_, send_of_covered hs ((payloadFits_iff p).mpr hp) hc hfit, rfl, rfl, ?_⟩
    rw [State.afterSend, List.length_append, frameBytes_length, flen]
  · cases hs : s.shutdown with
    | true => exact ⟨_, send_of_shutdown hs, rfl, rfl⟩
    | false =>
      cases hp : payloadFits p with
      | false => exact ⟨_, send_of_tooLong hs hp, rfl, rfl⟩
      | true =>
        have hle : p.length ≤ 65535 := (payloadFits_iff p).mp hp
        have hlt : s.credit < (flen p : Int) := by
          obtain h | h | h := hno
          · simp [hs] at h
          · omega
          · exact h
        exact ⟨_, send_of_held (sendHeld_of_credit_lt hs hp hlt), rfl, rfl⟩

/-- Settles O36: the held `SEND` is `send_of_held`, its TX turn `step_of_held`. -/
theorem heldCommandChangesNothing : Obligations.HeldCommandChangesNothing := by
  intro i s hi hwf hs hlt
  have hheld : sendHeld i.payload s = true := sendHeld_of_credit_lt hs hwf (by rwa [flen_cast])
  refine ⟨?_, fun k ts hsched hr => step_of_held hsched hr hheld⟩
  rw [exec_command hi, send_of_held hheld]

/-- Settles O37: shutdown is tested before the length. -/
theorem rejectedCommandsOnlyRespond : Obligations.RejectedCommandsOnlyRespond := by
  intro i s hi
  rw [exec_command hi]
  refine ⟨fun hs => send_of_shutdown hs, fun hs hlong => ?_⟩
  have hp := (payloadFits_eq_false_iff _).mpr hlong
  exact ⟨send_of_tooLong hs hp, if_neg (by simp [hp])⟩

/-- Settles O39: the update raises the credit to at least the cost of the frame, which is then sent. -/
theorem sufficientWindowUpdateLiftsTheHold : Obligations.SufficientWindowUpdateLiftsTheHold := by
  intro s i b0 b1 b2 b3 hi hwf hs hfit henough
  have hupdate := exec_of_credit (i := .rspWindowUpdate [b0, b1, b2, b3]) rfl hs rfl hfit
  refine ⟨_, _, hupdate, exec_command_of_covered hi hwf hs ?_ hfit, rfl, rfl⟩
  have hcredit : (flen i.payload : Int) ≤ s.credit + (le32 b0 b1 b2 b3 : Int) := by
    rw [flen_cast]
    omega
  exact hcredit

/-- Settles O40: `SEND_OK` is the condition of `send_of_covered`, and no other answer is `Sent`. -/
theorem sendOkSaysWhetherARequestIsSent : Obligations.SendOkSaysWhetherARequestIsSent := by
  intro c p s hfit
  rw [sendOk_iff, sendRequest_eq, ← payloadFits_iff, ← flen_cast]
  constructor
  · rintro ⟨hs, hp, hc⟩
    exact ⟨_, send_of_covered hs hp hc hfit, rfl⟩
  · rintro ⟨t, hsend, hans⟩
    obtain ⟨-, rfl⟩ | ⟨-, -, rfl⟩ | ⟨-, rfl⟩ | ⟨hs, hp, hc, -, -⟩ := send_eq_next.mp hsend
    · simp at hans
    · simp at hans
    · simp at hans
    · exact ⟨hs, hp, hc⟩

/-- Settles O42: a frame's bytes determine its code and payload, so the command they decode to is the request's. -/
theorem stepRunsThePresentedCommand : Obligations.StepRunsThePresentedCommand := by
  intro s k ts r hsched hr hh
  rw [step_of_presented hsched hr hh]
  refine ⟨rfl, fun i hdec _ => ?_, fun _ => sendRequest_eq r _⟩
  obtain ⟨hc, hp, hi⟩ := code_payload_of_decode_frameBytes hdec
  rw [sendRequest_eq, exec_command hi, hc, hp]

end Sys2Proof.Machine
end

section
/-! PROOFS. 40_decoder.md: what one received byte does, said once as `ByteEffect`; the next-state table (R127), skipping
and regaining sync (R122, R128, R135), and the dispatch of received frames (R131). -/

namespace Sys2Proof.Machine

/-! ### The credit a dispatch sets -/

/-- A frame that is neither an 8-byte VERSION nor a 4-byte WINDOW_UPDATE sets no credit (42_flow_control.md R191). -/
theorem responseCredit_eq_none {c : Byte} {p : List Byte} (hversion : ¬(c = 0x08 ∧ p.length = 8))
    (hupdate : ¬(c = 0x09 ∧ p.length = 4)) (credit : Int) : responseCredit c p credit = none := by
  refine Option.eq_none_iff_forall_ne_some.mpr fun v hv => ?_
  obtain ⟨hc, hl, -, -⟩ | ⟨hc, b0, b1, b2, b3, rfl, -⟩ := responseCredit_eq_some hv
  · exact hversion ⟨hc, hl⟩
  · exact hupdate ⟨hc, rfl⟩

theorem responseCredit_version {p : List Byte} (hp : p.length = 8) (credit : Int) :
    responseCredit 0x08 p credit = some (le32 (p.getD 4 0) (p.getD 5 0) (p.getD 6 0) (p.getD 7 0) : Int) :=
  match p, hp with
  | [_, _, _, _, _, _, _, _], _ => rfl

theorem responseCredit_windowUpdate {p : List Byte} (hp : p.length = 4) (credit : Int) :
    responseCredit 0x09 p credit =
      some (credit + (le32 (p.getD 0 0) (p.getD 1 0) (p.getD 2 0) (p.getD 3 0) : Int)) :=
  match p, hp with
  | [_, _, _, _], _ => rfl

/-- The credit after a dispatch, as one formula over all codes (R131). -/
theorem responseCredit_getD (c : Byte) (p : List Byte) (credit : Int) :
    (responseCredit c p credit).getD credit =
      if c = 0x08 ∧ p.length = 8 then
        (le32 (p.getD 4 0) (p.getD 5 0) (p.getD 6 0) (p.getD 7 0) : Int)
      else if c = 0x09 ∧ p.length = 4 then
        credit + (le32 (p.getD 0 0) (p.getD 1 0) (p.getD 2 0) (p.getD 3 0) : Int)
      else credit := by
  split_ifs with hversion hupdate
  · obtain ⟨rfl, hp⟩ := hversion
    rw [responseCredit_version hp, Option.getD_some]
  · obtain ⟨rfl, hp⟩ := hupdate
    rw [responseCredit_windowUpdate hp, Option.getD_some]
  · rw [responseCredit_eq_none hversion hupdate, Option.getD_none]

/-! ### One received byte -/

/-- The sync positions are numbered in the order of the marker's bytes (10_state.md R21). -/
theorem expects_of_num {d : DState} (h : d.num < 4) :
    ∃ e n, d.expects = some (e, n) ∧ Config.sync[d.num]? = some e := by
  cases d <;> simp [DState.num] at h <;> exact ⟨_, _, rfl, rfl⟩

theorem num_of_expects {d n : DState} {e : Byte} (h : d.expects = some (e, n)) :
    d.num < 4 ∧ n.num = d.num + 1 := by
  cases d <;> cases h <;> decide

/-- The state after the fourth sync byte: the skipped bytes are reported and a frame is open (R121, R128). -/
def State.locked (s : State) : State :=
  { s with dstate := .command, skip := [], events := s.events ++ skippedEvent s.skip }

/-- Byte `b` completes the frame in progress, whose payload is then `p` (R125, R126). -/
def State.completes (s : State) (b : Byte) (p : List Byte) : Prop :=
  (s.dstate = .lenHi ∧ lenWithHi s.len b = 0 ∧ p = []) ∨
  (s.dstate = .payload ∧ s.pbuf.length + 1 = s.len.toNat ∧ p = s.pbuf ++ [b])

theorem rxByte_of_locking {s : State} (hs : s.shutdown = false) (hd : s.dstate = .sync3) :
    rxByte 0xEF s = .next s.locked := by
  rw [rxByte_of_last_sync hs hd, flushSkip_eq]
  rfl

/-- Any other byte than the expected one is skipped (R122). -/
theorem rxByte_of_mismatch {s : State} {b e : Byte} {n : DState} (hs : s.shutdown = false)
    (h : s.dstate.expects = some (e, n)) (hb : b ≠ e) : rxByte b s = .next (s.skipByte b) := by
  rw [rxByte_of_enabled hs, receive_of_mismatch h hb, Received.finish]

/-- A byte that completes a frame is its dispatch (R125, R126, R131). -/
theorem rxByte_of_completes {s : State} {b : Byte} {p : List Byte} (hs : s.shutdown = false)
    (h : s.completes b p) : rxByte b s = runFrame s.cmd p s := by
  obtain ⟨hd, hl, rfl⟩ | ⟨hd, hl, rfl⟩ := h
  · exact (rxByte_of_lenHi_zero hs hd hl).trans (runFrame_of_registers hs _ _ _ _)
  · exact (rxByte_of_payload_last hs hd hl b).trans (runFrame_of_registers hs _ _ _ _)

theorem rxByte_of_shutdown {s : State} (hs : s.shutdown = true) (b : Byte) : rxByte b s = .next s :=
  rxByte_eq_next.mpr (.inl ⟨hs, rfl⟩)

/-- A dispatch with reception enabled that answers a next state delivers the frame. -/
theorem runFrame_eq_next {c : Byte} {p : List Byte} {s t : State} (hs : s.shutdown = false)
    (h : runFrame c p s = .next t) :
    (∀ v ∈ responseCredit c p s.credit, s.params.creditFits v = true) ∧
      t = s.delivered c p (responseCredit c p s.credit) := by
  rw [runFrame_eq] at h
  obtain ⟨hdown, -⟩ | ⟨-, hfit, rfl⟩ := deliver_eq_next.mp h
  · simp [hs] at hdown
  · exact ⟨hfit, rfl⟩

/-- Everything a received byte can do to the state, one case per row of R121 to R126; a dispatch belongs to the step of
the byte that completes the frame. -/
inductive ByteEffect (b : Byte) (s : State) : State → Prop
  | matched {n : DState} (he : s.dstate.expects = some (b, n)) (hn : n ≠ .command) :
      ByteEffect b s { s with dstate := n }
  | locked (hd : s.dstate = .sync3) (hb : b = 0xEF) : ByteEffect b s s.locked
  | skipped {e : Byte} {n : DState} (he : s.dstate.expects = some (e, n)) (hb : b ≠ e) :
      ByteEffect b s (s.skipByte b)
  | code (hd : s.dstate = .command) : ByteEffect b s { s with cmd := b, dstate := .lenLo }
  | lengthLow (hd : s.dstate = .lenLo) : ByteEffect b s { s with len := b.setWidth 16, dstate := .lenHi }
  | lengthHigh (hd : s.dstate = .lenHi) (hl : lenWithHi s.len b ≠ 0) :
      ByteEffect b s { s with len := lenWithHi s.len b, pbuf := [], dstate := .payload }
  | payload (hd : s.dstate = .payload) (hl : s.pbuf.length + 1 ≠ s.len.toNat) :
      ByteEffect b s { s with pbuf := s.pbuf ++ [b] }
  | dispatched {p : List Byte} (hp : s.completes b p)
      (hfit : ∀ v ∈ responseCredit s.cmd p s.credit, s.params.creditFits v = true) :
      ByteEffect b s (s.delivered s.cmd p (responseCredit s.cmd p s.credit))

/-- A byte either completes a frame, or the decoder goes on as `ByteEffect` says. -/
theorem completes_or_effect {s : State} (hs : s.shutdown = false) (b : Byte) :
    (∃ p, s.completes b p) ∨ ∃ t, rxByte b s = .next t ∧ ByteEffect b s t := by
  by_cases hsync : s.dstate.num < 4
  · obtain ⟨e, n, he, -⟩ := expects_of_num hsync
    by_cases hb : b = e
    · subst hb
      by_cases hn : n = .command
      · have hd : s.dstate = .sync3 := by cases hd : s.dstate <;> simp_all [DState.expects]
        obtain rfl : b = 0xEF := by simp_all [DState.expects]
        exact .inr ⟨_, rxByte_of_locking hs hd, .locked hd rfl⟩
      · exact .inr ⟨_, rxByte_of_match hs he hn, .matched he hn⟩
    · exact .inr ⟨_, rxByte_of_mismatch hs he hb, .skipped he hb⟩
  · cases hd : s.dstate with
    | sync0 | sync1 | sync2 | sync3 => simp [hd, DState.num] at hsync
    | command => exact .inr ⟨_, rxByte_of_command hs hd b, .code hd⟩
    | lenLo => exact .inr ⟨_, rxByte_of_lenLo hs hd b, .lengthLow hd⟩
    | lenHi =>
      by_cases hl : lenWithHi s.len b = 0
      · exact .inl ⟨_, .inl ⟨hd, hl, rfl⟩⟩
      · exact .inr ⟨_, rxByte_of_lenHi_pos hs hd hl, .lengthHigh hd hl⟩
    | payload =>
      by_cases hl : s.pbuf.length + 1 = s.len.toNat
      · exact .inl ⟨_, .inr ⟨hd, hl, rfl⟩⟩
      · exact .inr ⟨_, rxByte_of_payload_open hs hd hl b, .payload hd hl⟩

/-- A received byte that answers a next state has one of the effects. -/
theorem effect_of_rxByte {s t : State} {b : Byte} (hs : s.shutdown = false) (h : rxByte b s = .next t) :
    ByteEffect b s t := by
  obtain ⟨p, hp⟩ | ⟨u, hu, heff⟩ := completes_or_effect hs b
  · obtain ⟨hfit, rfl⟩ := runFrame_eq_next hs (rxByte_of_completes hs hp ▸ h)
    exact .dispatched hp hfit
  · obtain rfl : u = t := Host.Outcome.next.inj (hu.symm.trans h)
    exact heff

/-- A received byte is refused only where it completes a frame whose credit does not fit (42_flow_control.md R192). -/
theorem rxByte_eq_refused {s : State} {b : Byte} {r : Refusal} (h : rxByte b s = .refused r) :
    s.shutdown = false ∧ r = .creditOutOfRange ∧ ∃ p, s.completes b p ∧
      ∃ v ∈ responseCredit s.cmd p s.credit, s.params.creditFits v = false := by
  have hs : s.shutdown = false := by
    by_contra hdown
    rw [rxByte_of_shutdown (by simpa using hdown)] at h
    cases h
  obtain ⟨p, hp⟩ | ⟨u, hu, -⟩ := completes_or_effect hs b
  · rw [rxByte_of_completes hs hp, runFrame_eq] at h
    obtain ⟨-, hr, hv⟩ := deliver_eq_refused.mp h
    exact ⟨hs, hr, p, hp, hv⟩
  · rw [hu] at h
    cases h

/-! ### Feeding bytes in the sync states -/

theorem feed_of_shutdown {s : State} (hs : s.shutdown = true) (bs : List Byte) : feed bs s = .next s := by
  induction bs with
  | nil => rfl
  | cons b bs ih => rw [feed_cons, rxByte_of_shutdown hs, andThen_next, ih]

/-- The expected byte of the first three positions moves on, and the rest is fed there (R121). -/
theorem feed_of_match {s : State} {e : Byte} {n : DState} (hs : s.shutdown = false)
    (he : s.dstate.expects = some (e, n)) (hn : n ≠ .command) (bs : List Byte) :
    feed (e :: bs) s = feed bs { s with dstate := n } := by
  rw [feed_cons, rxByte_of_match hs he hn, andThen_next]

/-- Bytes other than the expected one are skipped, whatever the bound of the skip buffer (R122, R130). -/
theorem feed_of_mismatches {s : State} {e : Byte} {n : DState} {w : List Byte} (hs : s.shutdown = false)
    (he : s.dstate.expects = some (e, n)) (hw : e ∉ w) :
    ∃ u, feed w s = .next u ∧ u.dstate = s.dstate ∧ u.shutdown = false ∧ u.credit = s.credit ∧
      (s.params.skipCap = none → u = { s with skip := s.skip ++ w }) := by
  induction w generalizing s with
  | nil => exact ⟨s, rfl, rfl, hs, rfl, fun _ => by simp⟩
  | cons b w ih =>
    simp only [List.mem_cons, not_or] at hw
    obtain ⟨hb, hw⟩ := hw
    obtain ⟨u, hu, hd, hdown, hcredit, hskip⟩ :=
      ih (s := s.skipByte b) (by simpa using hs) (by simpa using he) hw
    refine ⟨u, ?_, by simpa using hd, hdown, by simpa using hcredit, fun hcap => ?_⟩
    · rw [feed_cons, rxByte_of_mismatch hs he (Ne.symm hb), andThen_next, hu]
    · rw [hskip (by simpa using hcap), skipByte_of_unbounded hcap]
      simp

/-- With an unbounded skip buffer, everything before the expected byte is skipped, and that byte moves on. -/
theorem feed_until_match {s : State} {e : Byte} {n : DState} {w : List Byte} (hs : s.shutdown = false)
    (hcap : s.params.skipCap = none) (he : s.dstate.expects = some (e, n)) (hn : n ≠ .command) (hw : e ∉ w)
    (bs : List Byte) :
    feed (w ++ e :: bs) s = feed bs { s with skip := s.skip ++ w, dstate := n } := by
  obtain ⟨u, hu, -, -, -, hskip⟩ := feed_of_mismatches hs he hw
  obtain rfl := hskip hcap
  rw [feed_append, hu, andThen_next, feed_of_match (s := { s with skip := s.skip ++ w }) hs he hn]

/-- The rest of the marker, from any sync position, opens a frame (R121, R135). -/
theorem feed_rest_of_marker {s : State} (hs : s.shutdown = false) (hsync : s.dstate.num < 4) :
    feed (Config.sync.drop s.dstate.num) s = .next s.locked := by
  have h3 : ∀ u : State, u.shutdown = false → u.dstate = .sync3 → feed [0xEF] u = .next u.locked := by
    intro u hu hd
    rw [feed_cons, rxByte_of_locking hu hd, andThen_next, feed_nil]
  have h2 : ∀ u : State, u.shutdown = false → u.dstate = .sync2 → feed [0xBE, 0xEF] u = .next u.locked := by
    intro u hu hd
    rw [feed_of_match (n := .sync3) hu (by rw [hd]; rfl) (by simp)]
    exact h3 { u with dstate := .sync3 } hu rfl
  have h1 : ∀ u : State, u.shutdown = false → u.dstate = .sync1 →
      feed [0xAD, 0xBE, 0xEF] u = .next u.locked := by
    intro u hu hd
    rw [feed_of_match (n := .sync2) hu (by rw [hd]; rfl) (by simp)]
    exact h2 { u with dstate := .sync2 } hu rfl
  cases hd : s.dstate with
  | sync0 =>
    change feed Config.sync s = _
    rw [feed_sync hs hd, flushSkip_eq]
    rfl
  | sync1 => exact h1 s hs hd
  | sync2 => exact h2 s hs hd
  | sync3 => exact h3 s hs hd
  | command | lenLo | lenHi | payload => simp [hd, DState.num] at hsync

/-- With nothing skipped, receiving a frame's bytes is its dispatch. -/
theorem feed_frameBytes_of_clear {c : Byte} {p : List Byte} {s : State} (hp : p.length ≤ 65535)
    (hs : s.shutdown = false) (hd : s.dstate = .sync0) (hskip : s.skip = []) :
    feed (frameBytes c p) s = runFrame c p s := by
  rw [feed_frameBytes hp hs hd, flushSkip_of_empty hskip]

/-- The command codes are codes of the response table too (30_encoding.md R104). -/
theorem responseOf_command_code {i : Instr} (h : i.direction = .hostToDongle) :
    ∃ j, responseOf i.code i.payload = some j := by
  have hknown : i.code ∈ knownCodes := by
    cases i <;> simp_all [Instr.direction, Instr.code, knownCodes]
  exact Option.ne_none_iff_exists'.mp fun hnone => (responseOf_eq_none_iff _ _).mp hnone hknown

/-! ### The obligations -/

/-- Settles O27: reception is one dispatch, and the meaning of a response is the same dispatch. -/
theorem receivingAResponseIsItsMeaning : Obligations.ReceivingAResponseIsItsMeaning := by
  intro i s hi hwf hd hskip
  cases hs : s.shutdown with
  | true =>
    rw [feed_of_shutdown hs, exec_response hi]
    exact (deliver_eq_next.mpr (.inl ⟨hs, rfl⟩)).symm
  | false => rw [encode, feed_frameBytes_of_clear ((payloadFits_iff _).mp hwf) hs hd hskip, exec_eq_runFrame hi]

/-- Settles O12: an unbounded register holds every credit, so the frame is delivered. -/
theorem dispatchIsTheRuleForEveryCode : Obligations.DispatchIsTheRuleForEveryCode := by
  intro c p s hs hw
  rw [runFrame_of_fits hs fun v _ => creditFits_of_unbounded hw v, State.delivered, responseCredit_getD]

/-- The rows of `SYNC0` to `SYNC2` in the next-state table: the position moves on the expected byte only, and nothing
is reported (R127). -/
theorem sync_row {b e : Byte} {n : DState} {s t : State} (hs : s.shutdown = false)
    (he : s.dstate.expects = some (e, n)) (hn : n ≠ .command) (h : rxByte b s = .next t) :
    t.dstate = (if b = e then n else s.dstate) ∧ (s.params.skipCap = none → t.events = s.events ++ []) := by
  by_cases hb : b = e
  · subst hb
    rw [rxByte_of_match hs he hn, next_eq_next] at h
    simp [h]
  · rw [rxByte_of_mismatch hs he hb, next_eq_next] at h
    exact ⟨by simp [h, hb], fun hcap => by simp [h, skipByte_of_unbounded hcap]⟩

/-- Settles O19: a row of the sync states, or of the header and payload states, at a time. -/
theorem nextStateTableHolds : Obligations.NextStateTableHolds := by
  intro b s t hs h
  cases hd : s.dstate with
  | sync0 => simpa only [hd] using sync_row (e := 0xDE) (n := .sync1) hs (by rw [hd]; rfl) (by simp) h
  | sync1 => simpa only [hd] using sync_row (e := 0xAD) (n := .sync2) hs (by rw [hd]; rfl) (by simp) h
  | sync2 => simpa only [hd] using sync_row (e := 0xBE) (n := .sync3) hs (by rw [hd]; rfl) (by simp) h
  | sync3 =>
    by_cases hb : b = 0xEF
    · rw [hb, rxByte_of_locking hs hd, next_eq_next] at h
      simp [h, hb, State.locked]
    · rw [rxByte_of_mismatch hs (n := .command) (by rw [hd]; rfl) hb, next_eq_next] at h
      simp only [if_neg hb]
      exact ⟨by simp [h, hd], fun hcap => by simp [h, skipByte_of_unbounded hcap]⟩
  | command =>
    rw [rxByte_of_command hs hd, next_eq_next] at h
    simp [h]
  | lenLo =>
    rw [rxByte_of_lenLo hs hd, next_eq_next] at h
    simp [h]
  | lenHi =>
    simp only [← lenWithHi_eq_zero]
    by_cases hl : lenWithHi s.len b = 0
    · rw [rxByte_of_completes hs (.inl ⟨hd, hl, rfl⟩)] at h
      obtain ⟨-, rfl⟩ := runFrame_eq_next hs h
      simp only [if_pos hl]
      exact ⟨rfl, fun _ => rfl⟩
    · rw [rxByte_of_lenHi_pos hs hd hl, next_eq_next] at h
      simp only [if_neg hl]
      simp [h]
  | payload =>
    by_cases hl : s.pbuf.length + 1 = s.len.toNat
    · rw [rxByte_of_completes hs (.inr ⟨hd, hl, rfl⟩)] at h
      obtain ⟨-, rfl⟩ := runFrame_eq_next hs h
      simp only [if_pos hl]
      exact ⟨rfl, fun _ => by simp [State.delivered]⟩
    · rw [rxByte_of_payload_open hs hd hl, next_eq_next] at h
      simp [h, hd, if_neg hl]

/-- Settles O22: the marker's bytes up to the position mismatch and are skipped, the others match. -/
theorem markerLocksFromAnySyncState : Obligations.MarkerLocksFromAnySyncState := by
  intro s hs hsync
  obtain ⟨e, n, he, -⟩ := expects_of_num hsync
  have hbefore : e ∉ Config.sync.take s.dstate.num := by
    cases hd : s.dstate <;> rw [hd] at he <;> cases he <;> decide
  obtain ⟨u, hu, hd, hdown, hcredit, hskip⟩ := feed_of_mismatches hs he hbefore
  refine ⟨u.locked, ?_, rfl, rfl, hcredit, fun hcap => ?_⟩
  · change feed Config.sync s = _
    rw [← List.take_append_drop s.dstate.num Config.sync, feed_append, hu, andThen_next, ← hd,
      feed_rest_of_marker hdown (by rwa [hd])]
  · rw [hskip hcap]
    rfl

/-- Settles O23: `feed_until_match` at each of the first three positions, then the fourth byte flushes. -/
theorem markerIsMatchedAsASubsequence : Obligations.MarkerIsMatchedAsASubsequence := by
  intro s w x y z hs hd hcap hw hx hy hz
  simp only [List.append_assoc, List.cons_append, List.nil_append]
  obtain ⟨u, hu, -, -, -, hskip⟩ := feed_of_mismatches
    (s := { s with skip := s.skip ++ w ++ x ++ y, dstate := .sync3 }) hs (n := .command) rfl hz
  obtain rfl := hskip hcap
  have hlast : feed (z ++ [0xEF]) { s with skip := s.skip ++ w ++ x ++ y, dstate := .sync3 } =
      .next ({ s with skip := s.skip ++ w ++ x ++ y ++ z, dstate := .sync3 } : State).locked := by
    rw [feed_append, hu, andThen_next, feed_cons]
    exact congrArg (andThen · (feed [])) (rxByte_of_locking
      (s := { s with skip := s.skip ++ w ++ x ++ y ++ z, dstate := .sync3 }) hs rfl)
  rw [feed_until_match hs hcap (by rw [hd]; rfl) (by simp) hw,
    feed_until_match (s := { s with skip := s.skip ++ w, dstate := .sync1 }) hs hcap rfl (by simp) hx,
    feed_until_match (s := { s with skip := s.skip ++ w ++ x, dstate := .sync2 }) hs hcap rfl (by simp) hy,
    hlast]
  simp only [State.locked, List.append_assoc]

/-- Settles O24: `feed_payload`, by induction on the missing bytes. -/
theorem declaredLengthIsConsumedWhole : Obligations.DeclaredLengthIsConsumedWhole :=
  fun _ _ hs hd hopen hlen => feed_payload hs hd hopen hlen

/-- Settles O25: by induction on the first chunk (`feed_append`). -/
theorem chunkBoundariesHaveNoEffect : Obligations.ChunkBoundariesHaveNoEffect := feed_append

/-- Settles O30: reception is one dispatch by the response table; as a VERSION the four bytes are malformed. -/
theorem loopedBackCommandReadsAsResponse : Obligations.LoopedBackCommandReadsAsResponse := by
  refine ⟨fun i s hi hwf hs hd hskip => ?_, fun s b0 b1 b2 b3 hs hd hskip => ?_⟩
  · obtain ⟨j, hj⟩ := responseOf_command_code hi
    refine ⟨j, hj, ?_⟩
    rw [encode, feed_frameBytes_of_clear ((payloadFits_iff _).mp hwf) hs hd hskip, runFrame_of_responseOf hj]
  · obtain ⟨t, ht, hcredit, hevents, -, -⟩ :=
      runFrame_of_malformed (c := 0x08) (p := [b0, b1, b2, b3]) (.inl ⟨rfl, by simp⟩) hs
    exact ⟨t, (feed_frameBytes_of_clear (p := [b0, b1, b2, b3]) (by simp) hs hd hskip).trans ht, hcredit, hevents⟩

/-- Settles O13: the dispatch of a WINDOW_UPDATE whose sum does not fit is refused (`deliver_eq_refused`). -/
theorem overflowingWindowUpdateIsRefused : Obligations.OverflowingWindowUpdateIsRefused := by
  intro s b0 b1 b2 b3 hs hfit
  rw [exec_response rfl]
  exact deliver_eq_refused.mpr ⟨hs, rfl, _, rfl, hfit⟩

/-- Settles O15: the mismatching byte is `skipByte`, whose two cases are the bound reached or not. -/
theorem mismatchKeepsTheSyncPosition : Obligations.MismatchKeepsTheSyncPosition := by
  rintro s _ b hs rfl hk hb
  obtain ⟨e, n, he, hsync⟩ := expects_of_num hk
  have hne : b ≠ e := fun h => hb (h ▸ hsync)
  rw [rxByte_of_mismatch hs he hne, skipByte_eq]
  refine ⟨fun hcap => ?_, fun n hcap hn => ?_, fun n hcap hn => ?_⟩
  · rw [if_neg (by simp [hcap])]
  · rw [if_pos (by simp [hcap, hn])]
  · rw [if_neg (by simp [hcap, hn])]

end Sys2Proof.Machine
end

section
/-! PROOFS. 40_decoder.md sections 5 and 6 and 60_exceptions.md: the decoder recovers from every state (R134, R242), reads
back what the encoder wrote (41_encoder.md R165), and does not see the sending side (R246). -/

namespace Sys2Proof.Machine

/-! ### What feeding keeps -/

theorem feed_keeps {bs : List Byte} {s t : State} (h : feed bs s = .next t) :
    t.shutdown = s.shutdown ∧ t.params = s.params := by
  induction bs generalizing s with
  | nil => rw [next_eq_next.mp h]; exact ⟨rfl, rfl⟩
  | cons b bs ih =>
    obtain ⟨u, hu, hrest⟩ := andThen_eq_next.mp h
    obtain ⟨hdown, hparams, -⟩ := rxByte_keeps hu
    obtain ⟨hdown', hparams'⟩ := ih hrest
    exact ⟨hdown'.trans hdown, hparams'.trans hparams⟩

/-- With legal parameters only the sum of a WINDOW_UPDATE can fail to fit (42_flow_control.md R192). -/
theorem responseCredit_fits {c : Byte} {p : List Byte} {params : Params} {credit : Int}
    (hlegal : params.legal = true)
    (hsum : ∀ b0 b1 b2 b3, c = 0x09 → p = [b0, b1, b2, b3] →
      params.creditFits (credit + (le32 b0 b1 b2 b3 : Int)) = true) :
    ∀ v ∈ responseCredit c p credit, params.creditFits v = true := by
  intro v hv
  obtain ⟨-, -, hnonneg, hlt⟩ | ⟨hc, b0, b1, b2, b3, hp, rfl⟩ := responseCredit_eq_some hv
  · exact creditFits_field hlegal hnonneg hlt
  · exact hsum b0 b1 b2 b3 hc hp

/-! ### Bytes that finish what the decoder is in the middle of (R134) -/

/-- Some bytes lead back to `SYNC0`. -/
def State.finishable (s : State) : Prop := ∃ filler u, feed filler s = .next u ∧ u.dstate = .sync0

/-- Bytes that complete a frame whose credit fits lead back to `SYNC0`. -/
theorem finishable_of_runFrame {s u : State} {filler p : List Byte} {c : Byte} (hu : u.shutdown = false)
    (h : feed filler s = runFrame c p u) (hfit : ∀ v ∈ responseCredit c p u.credit, u.params.creditFits v = true) :
    s.finishable :=
  ⟨filler, _, h.trans (runFrame_of_fits hu hfit), rfl⟩

theorem finishable_of_feed {s u : State} {bs : List Byte} (h : feed bs s = .next u) (hu : u.finishable) :
    s.finishable := by
  obtain ⟨filler, t, ht, hd⟩ := hu
  exact ⟨bs ++ filler, t, by rw [feed_append, h, andThen_next, ht], hd⟩

/-- An empty frame of code 0 finishes `COMMAND`. -/
theorem finishable_of_command {s : State} (hs : s.shutdown = false) (hd : s.dstate = .command) : s.finishable :=
  finishable_of_runFrame hs (feed_of_command (c := 0) (p := []) (by simp) hs hd)
    (by simp [responseCredit_eq_none])

/-- The rest of the marker and that frame finish a sync state. -/
theorem finishable_of_sync {s : State} (hs : s.shutdown = false) (hsync : s.dstate.num < 4) : s.finishable :=
  finishable_of_feed (feed_rest_of_marker hs hsync) (finishable_of_command (s := s.locked) hs rfl)

/-- A zero high byte after a zero low byte finishes `LEN_HI` with an empty frame, which sets no credit. -/
theorem finishable_of_zero_length {s : State} (hs : s.shutdown = false) (hd : s.dstate = .lenHi)
    (hlo : s.len = (lengthLo 0).setWidth 16) : s.finishable :=
  finishable_of_runFrame hs (feed_of_lenHi (p := []) (by simp) hs hd hlo) (by simp [responseCredit_eq_none])

/-- A zero length finishes `LEN_LO`. -/
theorem finishable_of_lenLo {s : State} (hs : s.shutdown = false) (hd : s.dstate = .lenLo) : s.finishable := by
  have hlo : feed [lengthLo 0] s = .next { s with len := (lengthLo 0).setWidth 16, dstate := .lenHi } := by
    rw [feed_cons, rxByte_of_lenLo hs hd, andThen_next, feed_nil]
  exact finishable_of_feed hlo (finishable_of_zero_length hs rfl rfl)

/-- The missing payload bytes, all zero, finish `PAYLOAD` when the frame's credit fits. -/
theorem finishable_of_payload {s : State} (hs : s.shutdown = false) (hd : s.dstate = .payload)
    (hopen : s.pbuf.length < s.len.toNat)
    (hfit : ∀ v ∈ responseCredit s.cmd (s.pbuf ++ List.replicate (s.len.toNat - s.pbuf.length) 0) s.credit,
      s.params.creditFits v = true) : s.finishable :=
  finishable_of_runFrame
    (u := { s with pbuf := s.pbuf ++ List.replicate (s.len.toNat - s.pbuf.length) 0 }) hs
    (feed_payload hs hd hopen (by rw [List.length_replicate]; omega)) hfit

/-- A length of at least 256, which no credit frame has, and that many zeros finish `LEN_HI`. -/
theorem finishable_of_lenHi {s : State} (hs : s.shutdown = false) (hd : s.dstate = .lenHi) : s.finishable := by
  obtain ⟨n, hn, hlong⟩ : ∃ n, lenWithHi s.len 1 = n ∧ 256 ≤ n.toNat :=
    ⟨_, rfl, by rw [lenWithHi_toNat]; simp⟩
  have hpos : lenWithHi s.len 1 ≠ 0 := by
    rw [hn]
    rintro rfl
    simp at hlong
  have hhi : feed [1] s = .next { s with len := n, pbuf := [], dstate := .payload } := by
    rw [feed_cons, rxByte_of_lenHi_pos hs hd hpos, andThen_next, feed_nil, hn]
  refine finishable_of_feed hhi (finishable_of_payload hs rfl (Nat.zero_lt_of_lt hlong) ?_)
  rw [responseCredit_eq_none (by simp; omega) (by simp; omega)]
  simp

/-- In `PAYLOAD` the only frame whose credit may not fit is the WINDOW_UPDATE that the zeros complete. -/
theorem payload_fits_of_zeros {s : State} (hopen : s.pbuf.length < s.len.toNat) (hlegal : s.params.legal = true)
    (hsum : ∀ b0 b1 b2 b3, s.cmd = 0x09 → s.len = 4 →
      s.pbuf ++ List.replicate (4 - s.pbuf.length) 0 = [b0, b1, b2, b3] →
      s.params.creditFits (s.credit + (le32 b0 b1 b2 b3 : Int)) = true) :
    ∀ v ∈ responseCredit s.cmd (s.pbuf ++ List.replicate (s.len.toNat - s.pbuf.length) 0) s.credit,
      s.params.creditFits v = true := by
  refine responseCredit_fits hlegal fun b0 b1 b2 b3 hc hp => ?_
  have hlen : s.len.toNat = 4 := by
    have hcount := congrArg List.length hp
    simp only [List.length_append, List.length_replicate, List.length_cons, List.length_nil] at hcount
    omega
  exact hsum b0 b1 b2 b3 hc (BitVec.eq_of_toNat_eq hlen) (by rwa [hlen] at hp)

/-- Settles O31: one lemma per state of the decoder, then `feed_frameBytes` from `SYNC0`. -/
theorem decoderRecoversFromAnyState : Obligations.DecoderRecoversFromAnyState := by
  intro s hinv hs hlegal hsum
  obtain ⟨-, hopen, -, -, -⟩ := hinv
  have hfinish : s.finishable := by
    cases hd : s.dstate with
    | sync0 | sync1 | sync2 | sync3 => exact finishable_of_sync hs (by simp [hd, DState.num])
    | command => exact finishable_of_command hs hd
    | lenLo => exact finishable_of_lenLo hs hd
    | lenHi => exact finishable_of_lenHi hs hd
    | payload =>
      obtain ⟨-, hmissing⟩ := hopen hd
      exact finishable_of_payload hs hd hmissing
        (payload_fits_of_zeros hmissing hlegal fun b0 b1 b2 b3 => hsum b0 b1 b2 b3 hd)
  obtain ⟨filler, u, hu, hd⟩ := hfinish
  obtain ⟨hdown, hparams⟩ := feed_keeps hu
  rw [hs] at hdown
  refine ⟨filler, u, hu, hparams, fun c p hp hfits => ?_⟩
  have hfit := responseCredit_fits (hparams ▸ hlegal) hfits
  refine ⟨u.flushSkip.delivered c p (responseCredit c p u.flushSkip.credit), ?_,
    ⟨rfl, rfl, rfl, rfl, flushSkip_skip u⟩, by simp [State.delivered]⟩
  rw [feed_append, hu, andThen_next, feed_frameBytes hp hdown hd,
    runFrame_of_fits (by simpa using hdown) (by simpa using hfit)]

/-! ### A stream of encoded frames (41_encoder.md R165) -/

/-- The event of a frame received whole (R131). -/
def Request.frameEvent (q : Request) : Event := .frame q.code q.payload (classify q.code q.payload.length)

/-- A decoder in `SYNC0` with nothing skipped and an unbounded register reads a stream of frames frame by frame. -/
theorem feed_frames {qs : List Request} {s : State} (hfits : ∀ q ∈ qs, payloadFits q.payload = true)
    (hs : s.shutdown = false) (hd : s.dstate = .sync0) (hskip : s.skip = []) (hw : s.params.creditW = none) :
    ∃ t, feed (qs.flatMap fun q => frameBytes q.code q.payload) s = .next t ∧ t.dstate = .sync0 ∧ t.skip = [] ∧
      t.events = s.events ++ qs.map Request.frameEvent := by
  induction qs generalizing s with
  | nil => exact ⟨s, rfl, hd, hskip, by simp⟩
  | cons q qs ih =>
    obtain ⟨hq, hqs⟩ := List.forall_mem_cons.mp hfits
    have hframe := (feed_frameBytes_of_clear ((payloadFits_iff _).mp hq) hs hd hskip).trans
      (runFrame_of_fits (c := q.code) hs fun v _ => creditFits_of_unbounded hw v)
    obtain ⟨t, ht, htd, htskip, htevents⟩ := ih (s := s.delivered q.code q.payload _) hqs hs rfl hskip hw
    refine ⟨t, ?_, htd, htskip, ?_⟩
    · rw [List.flatMap_cons, feed_append, hframe, andThen_next, ht]
    · rw [htevents]
      simp [State.delivered, Request.frameEvent]

/-- Settles O50: the TX stream is the sent frames (`txWhole`), read back by `feed_frames`. -/
theorem txStreamDecodesToTheSentFrames : Obligations.TxStreamDecodesToTheSentFrames := by
  rintro s r ⟨hstream, hfits⟩ hs hd hskip hw
  rw [hstream]
  exact feed_frames hfits hs hd hskip hw

/-! ### The decoder does not see the sending side (R246) -/

/-- What one byte does to the decoder and the events depends on the decoder alone. -/
theorem rxByte_blind {b : Byte} {s t s' t' : State} (hsame : s.sameDecoder t) (hs : s.shutdown = false)
    (ht : t.shutdown = false) (h : rxByte b s = .next s') (h' : rxByte b t = .next t') :
    s'.sameDecoder t' ∧ ∃ evs, s'.events = s.events ++ evs ∧ t'.events = t.events ++ evs := by
  obtain ⟨hd, hc, hl, hp, hk, hcap⟩ := hsame
  cases effect_of_rxByte hs h with
  | matched he hn =>
    rw [rxByte_of_match ht (hd ▸ he) hn, next_eq_next] at h'
    subst h'
    exact ⟨⟨rfl, hc, hl, hp, hk, hcap⟩, [], by simp⟩
  | locked hsync hb =>
    rw [hb, rxByte_of_locking ht (hd ▸ hsync), next_eq_next] at h'
    subst h'
    exact ⟨⟨rfl, hc, hl, hp, rfl, hcap⟩, skippedEvent s.skip, rfl, by rw [hk]; rfl⟩
  | skipped he hb =>
    rw [rxByte_of_mismatch ht (hd ▸ he) hb, next_eq_next] at h'
    subst h'
    rw [skipByte_eq, skipByte_eq, ← hk, ← hcap]
    split
    · exact ⟨⟨hd, hc, hl, hp, rfl, hcap⟩, _, rfl, rfl⟩
    · exact ⟨⟨hd, hc, hl, hp, rfl, hcap⟩, [], by simp⟩
  | code hcmd =>
    rw [rxByte_of_command ht (hd ▸ hcmd), next_eq_next] at h'
    subst h'
    exact ⟨⟨rfl, rfl, hl, hp, hk, hcap⟩, [], by simp⟩
  | lengthLow hlo =>
    rw [rxByte_of_lenLo ht (hd ▸ hlo), next_eq_next] at h'
    subst h'
    exact ⟨⟨rfl, hc, rfl, hp, hk, hcap⟩, [], by simp⟩
  | lengthHigh hhi hn =>
    rw [rxByte_of_lenHi_pos ht (hd ▸ hhi) (hl ▸ hn), next_eq_next] at h'
    subst h'
    exact ⟨⟨rfl, hc, by rw [hl], rfl, hk, hcap⟩, [], by simp⟩
  | payload hpay hn =>
    rw [rxByte_of_payload_open ht (hd ▸ hpay) (by rwa [← hl, ← hp]), next_eq_next] at h'
    subst h'
    exact ⟨⟨hd, hc, hl, by rw [hp], hk, hcap⟩, [], by simp⟩
  | @dispatched p hdone hfit =>
    have hdone' : t.completes b p := by simpa only [State.completes, hd, hl, hp] using hdone
    rw [rxByte_of_completes ht hdone'] at h'
    obtain ⟨-, rfl⟩ := runFrame_eq_next ht h'
    exact ⟨⟨rfl, rfl, rfl, rfl, hk, hcap⟩, [_], rfl, by rw [hc]; rfl⟩

/-- Settles O56: `rxByte_blind` at every byte, by induction on the bytes. -/
theorem decoderIsBlindToTheSendingSide : Obligations.DecoderIsBlindToTheSendingSide := by
  intro bs
  induction bs with
  | nil =>
    intro s s' t t' hsame _ _ h h'
    obtain rfl := next_eq_next.mp h
    obtain rfl := next_eq_next.mp h'
    exact ⟨hsame, [], by simp⟩
  | cons b bs ih =>
    intro s s' t t' hsame hs ht h h'
    obtain ⟨u, hu, hrest⟩ := andThen_eq_next.mp h
    obtain ⟨v, hv, hrest'⟩ := andThen_eq_next.mp h'
    obtain ⟨huv, evs, hevs, hevs'⟩ := rxByte_blind hsame hs ht hu hv
    obtain ⟨hus, -⟩ := rxByte_keeps hu
    obtain ⟨hvt, -⟩ := rxByte_keeps hv
    obtain ⟨hfinal, more, hmore, hmore'⟩ := ih u s' v t' huv (hus.trans hs) (hvt.trans ht) hrest hrest'
    exact ⟨hfinal, evs ++ more, by rw [hmore, hevs, List.append_assoc], by rw [hmore', hevs', List.append_assoc]⟩

end Sys2Proof.Machine
end

section
/-! PROOFS. 00_scope.md section 5 and 70_reset_and_hazards.md section 1: what one turn of each agent is, and what every step
can do, said once as `StepEffect`. -/

namespace Sys2Proof.Machine

/-! ### One turn of each agent -/

section

variable {s : State} {ts : List Turn}

/-- An RX turn with reception enabled is `RX_BYTE` of the transport's first byte. -/
theorem step_of_rx {b : Byte} {bs : List Byte} (hsched : s.schedule = .rx :: ts) (hin : s.rxIn = b :: bs)
    (hs : s.shutdown = false) : step s = rxByte b { s with schedule := ts, rxIn := bs } := by
  simp only [step, nextTurn, hsched, takeTurn, rxTurn, hin, hs, Bool.false_eq_true, if_false]

/-- Under shutdown an RX turn is spent and nothing else happens (40_decoder.md R133). -/
theorem step_of_rx_shutdown (hsched : s.schedule = .rx :: ts) (hs : s.shutdown = true) :
    step s = .next { s with schedule := ts } := by
  simp only [step, nextTurn, hsched, takeTurn, rxTurn]
  split
  · rfl
  · exact if_pos hs

theorem step_of_shutdownReq (hsched : s.schedule = .shutdownReq :: ts) :
    step s = .next { s with schedule := ts, shutdown := true } := by
  rw [step, nextTurn, hsched]
  rfl

theorem step_of_reset (hsched : s.schedule = .reset :: ts) :
    step s = .next { s.afterReset with schedule := ts } := by
  rw [step, nextTurn, hsched]
  rfl

end

/-- Everything a step can do to the state, one case per kind of turn and answer. -/
inductive StepEffect (s : State) : State → Prop
  | idle (hturn : ∀ turn ∈ s.schedule.head?, turn = .rx ∨ ∃ k, turn = .tx k) :
      StepEffect s { s with schedule := s.schedule.tail }
  | received {ts : List Turn} {b : Byte} {bs : List Byte} {t : State} (hsched : s.schedule = .rx :: ts)
      (hin : s.rxIn = b :: bs) (hs : s.shutdown = false)
      (hbyte : rxByte b { s with schedule := ts, rxIn := bs } = .next t)
      (heff : ByteEffect b { s with schedule := ts, rxIn := bs } t) : StepEffect s t
  | rejected {k : Nat} {ts : List Turn} {r : Request} (why : Reject) (hsched : s.schedule = .tx k :: ts)
      (hr : s.requests[k]? = some r) (hheld : sendHeld r.payload s = false) :
      StepEffect s (({ s with schedule := ts, requests := s.requests.eraseIdx k } : State).respond r.code r.payload
        (.rejected why))
  | sent {k : Nat} {ts : List Turn} {r : Request} (hsched : s.schedule = .tx k :: ts)
      (hr : s.requests[k]? = some r) (hheld : sendHeld r.payload s = false) (hs : s.shutdown = false)
      (hp : payloadFits r.payload = true) (hc : (flen r.payload : Int) ≤ s.credit)
      (hfit : s.params.creditFits (s.credit - (flen r.payload : Int)) = true) :
      StepEffect s (({ s with schedule := ts, requests := s.requests.eraseIdx k } : State).afterSend r.code r.payload)
  | withdrawn {k : Nat} {ts : List Turn} (hsched : s.schedule = .withdraw k :: ts) :
      StepEffect s { s with schedule := ts, requests := s.requests.eraseIdx k }
  | shutDown {ts : List Turn} (hsched : s.schedule = .shutdownReq :: ts) :
      StepEffect s { s with schedule := ts, shutdown := true }
  | reset {ts : List Turn} (hsched : s.schedule = .reset :: ts) : StepEffect s { s.afterReset with schedule := ts }

/-- Every step that answers a next state has one of the effects. -/
theorem step_effect {s t : State} (h : step s = .next t) : StepEffect s t := by
  have idle : ∀ turn ts, s.schedule = turn :: ts → (turn = .rx ∨ ∃ k, turn = .tx k) →
      StepEffect s { s with schedule := ts } := by
    intro turn ts hsched hturn
    have heff := StepEffect.idle (s := s) (by simpa [hsched] using hturn)
    rwa [hsched] at heff
  obtain ⟨hsched, rfl⟩ | ⟨turn, ts, hsched, hcases⟩ := step_cases h
  · have heff := StepEffect.idle (s := t) (by simp [hsched])
    rwa [hsched, List.tail_nil, ← hsched] at heff
  obtain ⟨rfl, ⟨-, rfl⟩ | ⟨b, bs, hin, hs, hbyte⟩⟩ | ⟨k, rfl, ⟨rfl, -⟩ | ⟨r, hr, hheld, hsend⟩⟩ | ⟨k, rfl, rfl⟩ |
    ⟨rfl, rfl⟩ | ⟨rfl, rfl⟩ := hcases
  · exact idle _ ts hsched (.inl rfl)
  · exact .received hsched hin hs hbyte (effect_of_rxByte (s := { s with schedule := ts, rxIn := bs }) hs hbyte)
  · exact idle _ ts hsched (.inr ⟨k, rfl⟩)
  · obtain ⟨-, rfl⟩ | ⟨-, -, rfl⟩ | ⟨hheld', -⟩ | ⟨hs, hp, hc, hfit, rfl⟩ := send_eq_next.mp hsend
    · exact .rejected _ hsched hr hheld
    · exact .rejected _ hsched hr hheld
    · exact absurd (hheld.symm.trans hheld') (by simp)
    · exact .sent hsched hr hheld hs hp hc hfit
  · exact .withdrawn hsched
  · exact .shutDown hsched
  · exact .reset hsched

/-- A step is refused only in the received byte of an RX turn or in the `SEND` of a TX turn. -/
theorem step_eq_refused {s : State} {r : Refusal} (h : step s = .refused r) :
    (∃ ts b bs, s.schedule = .rx :: ts ∧ s.rxIn = b :: bs ∧
      rxByte b { s with schedule := ts, rxIn := bs } = .refused r) ∨
    (∃ k ts q, s.schedule = .tx k :: ts ∧ s.requests[k]? = some q ∧
      send q.code q.payload { s with schedule := ts, requests := s.requests.eraseIdx k } = .refused r) := by
  cases hsched : s.schedule with
  | nil => simp [step, nextTurn, hsched] at h
  | cons turn ts =>
    cases turn with
    | rx =>
      cases hin : s.rxIn with
      | nil => simp [step, nextTurn, hsched, takeTurn, rxTurn, hin] at h
      | cons b bs =>
        by_cases hs : s.shutdown = true
        · rw [step_of_rx_shutdown hsched hs] at h
          cases h
        · rw [step_of_rx hsched hin (by simpa using hs)] at h
          exact .inl ⟨ts, b, bs, rfl, rfl, h⟩
    | tx k =>
      cases hr : s.requests[k]? with
      | none => simp [step, nextTurn, hsched, takeTurn, txTurn, hr] at h
      | some q =>
        cases hheld : sendHeld q.payload s with
        | true => rw [step_of_held hsched hr hheld] at h; cases h
        | false =>
          rw [step_of_presented hsched hr hheld, sendRequest_eq] at h
          exact .inr ⟨k, ts, q, rfl, hr, h⟩
    | withdraw k => simp [step, nextTurn, hsched, takeTurn, withdrawTurn] at h
    | shutdownReq => rw [step_of_shutdownReq hsched] at h; cases h
    | reset => rw [step_of_reset hsched] at h; cases h

/-! ### A header word placed for the next step (log entry 6) -/

/-- The state that `withFetchWord` builds from a header word of the table is the one with that frame placed. -/
theorem withFetchWord_headerWord (s : State) (c lo hi : Byte) :
    s.withFetchWord 56 (headerWord c lo hi) = placeFrame c lo hi s := by
  obtain ⟨h0, h1, h2, h3, h4, h5, h6⟩ := wordBytes_headerWord c lo hi
  have hsync : (List.range 4).map (wordByte (headerWord c lo hi)) = Config.sync := by
    simp [List.range_succ, h0, h1, h2, h3, Config.sync]
  rw [State.withFetchWord, placeWord, if_pos ⟨rfl, hsync⟩, h4, h5, h6]

/-- The step after `placeFrame` receives the last byte of the frame, which is dispatched. -/
theorem step_placeFrame (s : State) (c lo hi : Byte) :
    step (placeFrame c lo hi s) =
      runFrame c (List.replicate (le16 lo hi) 0) { s with shutdown := false, skip := [] } := by
  by_cases hn : le16 lo hi = 0
  · have hzero : lenWithHi (lo.setWidth 16) hi = 0 := by
      have := lo.isLt
      rw [lenWithHi_eq_zero, BitVec.toNat_setWidth]
      simp only [le16] at hn
      omega
    rw [placeFrame, if_pos hn, step_of_rx rfl rfl rfl, hn, List.replicate_zero,
      rxByte_of_completes rfl (.inl ⟨rfl, hzero, rfl⟩)]
    exact runFrame_of_registers (s := { s with shutdown := false, skip := [] }) rfl _ _ _ _
  · have hlt := le16_lt lo hi
    have hlast : (List.replicate (le16 lo hi - 1) (0 : Byte)).length + 1 = (BitVec.ofNat 16 (le16 lo hi)).toNat := by
      rw [List.length_replicate, BitVec.toNat_ofNat]
      omega
    have hpay : List.replicate (le16 lo hi) (0 : Byte) = List.replicate (le16 lo hi - 1) 0 ++ [0] := by
      rw [← List.replicate_succ', Nat.sub_add_cancel (by omega)]
    rw [placeFrame, if_neg hn, step_of_rx rfl rfl rfl, rxByte_of_completes rfl (.inr ⟨rfl, hlast, rfl⟩), ← hpay]
    exact runFrame_of_registers (s := { s with shutdown := false, skip := [] }) rfl _ _ _ _

/-! ### What reset leaves -/

/-- The parameters the spec admits, one fact per parameter (00_scope.md R9). -/
theorem legal_iff (p : Params) :
    p.legal = true ↔ (∀ w ∈ p.creditW, 34 ≤ w) ∧ (∀ n ∈ p.skipCap, 1 ≤ n) ∧ p.creditFits p.initCredit = true := by
  simp [Params.legal, Option.all_eq_true, and_assoc]

theorem inv_resetWith (params : Params) : (State.resetWith params).inv :=
  ⟨.inr rfl, by simp [State.payloadOpen, State.resetWith], fun _ => rfl, ⟨fun _ => ⟨rfl, rfl⟩, fun _ => rfl⟩,
    Int.natCast_nonneg _⟩

theorem bounded_resetWith {params : Params} (h : params.legal = true) : (State.resetWith params).bounded := by
  obtain ⟨-, hcap, hfit⟩ := (legal_iff params).mp h
  exact ⟨h, hfit, hcap⟩

/-! ### The obligations -/

/-- Settles O33: reception, dispatch and the RX turn each test the flag first. -/
theorem shutdownDisablesReception : Obligations.ShutdownDisablesReception := by
  intro s hs
  refine ⟨rxByte_of_shutdown hs, feed_of_shutdown hs, fun i hi => ?_, fun ts hsched => step_of_rx_shutdown hsched hs⟩
  rw [exec_response hi]
  exact deliver_eq_next.mpr (.inl ⟨hs, rfl⟩)

/-- Settles O43: a frame's bytes determine its code and payload, so the response they decode to is the received one. -/
theorem stepRunsTheReceivedResponse : Obligations.StepRunsTheReceivedResponse := by
  intro s ts b bs hsched hin hs
  have hstep := step_of_rx hsched hin hs
  refine ⟨hstep, fun c p u hrec => ?_⟩
  have hrun : step s = runFrame c p u := by
    rw [hstep]
    exact (rxByte_of_enabled (s := { s with schedule := ts, rxIn := bs }) hs b).trans (congrArg Received.finish hrec)
  refine ⟨hrun, fun i hdec _ => ?_⟩
  obtain ⟨hc, hp, hi⟩ := code_payload_of_decode_frameBytes hdec
  rw [hrun, exec_eq_runFrame hi, hc, hp]

/-- Settles O44: the placed frame is dispatched, and the meaning of its row is that dispatch. -/
theorem placedWordRunsNext : Obligations.PlacedWordRunsNext := by
  intro s c lo hi i hrow
  rw [withFetchWord_headerWord, step_placeFrame, runFrame_of_responseOf hrow]

/-- Settles O45: the two turns are `step_of_reset` and `step_of_shutdownReq`. -/
theorem hostControlSteps : Obligations.HostControlSteps := fun _ _ =>
  ⟨fun hsched => ⟨_, step_of_reset hsched, ⟨rfl, rfl, rfl, rfl, rfl, rfl, rfl⟩, rfl, rfl, rfl, rfl, rfl, rfl, rfl⟩,
    step_of_shutdownReq⟩

/-- Settles O46: a legal `INIT_CREDIT` fits and a legal `SKIP_CAP` exceeds the empty buffer. -/
theorem resetStateIsTheTabulatedOne : Obligations.ResetStateIsTheTabulatedOne := by
  refine ⟨⟨rfl, rfl, rfl, rfl, rfl, rfl, rfl⟩, rfl, rfl, rfl, fun n => ?_, fun params hlegal => ?_⟩
  · rw [sendOk_iff]
    simp only [State.reset, State.resetWith, true_and]
    omega
  · exact ⟨⟨rfl, rfl, rfl, rfl, rfl, rfl, rfl⟩, inv_resetWith params, bounded_resetWith hlegal, rfl,
      by simp [sentRequests, State.resetWith]⟩

/-- Settles O59: the byte of the RX turn is the fourth sync byte. -/
theorem regainingSyncReportsTheSkippedBytes : Obligations.RegainingSyncReportsTheSkippedBytes := by
  intro s ts bs hsched hin hs hd
  rw [step_of_rx hsched hin hs]
  exact rxByte_of_locking (s := { s with schedule := ts, rxIn := bs }) hs hd

end Sys2Proof.Machine
end

section
/-! PROOFS. 10_state.md section 3, 42_flow_control.md sections 2 to 4 and 60_exceptions.md: the invariants every step keeps,
what a step can report, write and refuse, and the two accounts over runs (42_flow_control.md R190, 60_exceptions.md
R247). Each is read off `ByteEffect` and `StepEffect`. -/

namespace Sys2Proof.Machine

/-! ### What a received byte keeps -/

section

variable {b : Byte} {s t : State}

/-- A frame is completed in `LEN_HI` or `PAYLOAD` only. -/
theorem num_of_completes {p : List Byte} (h : s.completes b p) : 6 ≤ s.dstate.num := by
  obtain ⟨hd, -⟩ | ⟨hd, -⟩ := h <;> rw [hd] <;> decide

/-- R32 (a) inside a frame. -/
theorem skip_of_skipClear (h : s.skipClear) (hnum : 4 ≤ s.dstate.num) : s.skip = [] :=
  h.resolve_left (by omega)

/-- The credit a frame sets is not negative when the credit was not (42_flow_control.md R188). -/
theorem responseCredit_nonneg {c : Byte} {p : List Byte} {credit : Int} (h : 0 ≤ credit) :
    0 ≤ (responseCredit c p credit).getD credit := by
  cases hv : responseCredit c p credit with
  | none => exact h
  | some v =>
    obtain ⟨-, -, hnonneg, -⟩ | ⟨-, b0, b1, b2, b3, -, rfl⟩ := responseCredit_eq_some hv
    · exact hnonneg
    · exact Int.add_nonneg h (Int.natCast_nonneg _)

theorem ByteEffect.keeps_inv (heff : ByteEffect b s t) (h : s.inv) : t.inv := by
  obtain ⟨hskip, hopen, hpbuf, ⟨hregs, hlen⟩, hcredit⟩ := h
  have hclear := skip_of_skipClear hskip
  cases heff with
  | @matched n he hn =>
    obtain ⟨hlt, hnext⟩ := num_of_expects he
    have hn4 : n.num < 4 := by
      have hne : n.num ≠ 4 := fun h4 => hn (by cases n <;> simp [DState.num] at h4; rfl)
      omega
    have hs : s.dstate ≠ .payload := fun hd => by simp [hd, DState.num] at hlt
    refine ⟨.inl hn4, fun hd => ?_, fun _ => hpbuf hs, ⟨fun _ => hregs (by omega), fun hd => ?_⟩, hcredit⟩
    · simp [show n = .payload from hd, DState.num] at hn4
    · simp [show n = .lenLo from hd, DState.num] at hn4
  | locked hd _ =>
    exact ⟨.inr rfl, by simp [State.payloadOpen, State.locked], fun _ => hpbuf (by simp [hd]),
      ⟨fun _ => hregs (by simp [hd, DState.num]), by simp [State.locked]⟩, hcredit⟩
  | skipped he _ =>
    obtain ⟨hlt, -⟩ := num_of_expects he
    simp only [State.inv, State.skipClear, State.payloadOpen, State.pbufClear, State.regsClear, State.creditNonneg,
      skipByte_dstate, skipByte_cmd, skipByte_len, skipByte_pbuf, skipByte_credit]
    exact ⟨.inl hlt, hopen, hpbuf, ⟨hregs, hlen⟩, hcredit⟩
  | code hd =>
    obtain ⟨-, hzero⟩ := hregs (by simp [hd, DState.num])
    exact ⟨.inr (hclear (by simp [hd, DState.num])), by simp [State.payloadOpen],
      fun _ => hpbuf (by simp [hd]), ⟨by simp [DState.num], fun _ => hzero⟩, hcredit⟩
  | lengthLow hd =>
    exact ⟨.inr (hclear (by simp [hd, DState.num])), by simp [State.payloadOpen],
      fun _ => hpbuf (by simp [hd]), ⟨by simp [DState.num], by simp⟩, hcredit⟩
  | lengthHigh hd hl =>
    have hpos : 1 ≤ (lenWithHi s.len b).toNat :=
      Nat.pos_of_ne_zero fun h0 => hl (BitVec.eq_of_toNat_eq h0)
    exact ⟨.inr (hclear (by simp [hd, DState.num])), fun _ => ⟨hpos, hpos⟩, by simp [State.pbufClear],
      ⟨by simp [DState.num], by simp⟩, hcredit⟩
  | payload hd hl =>
    obtain ⟨hpos, hlt⟩ := hopen hd
    refine ⟨.inr (hclear (by simp [hd, DState.num])), fun _ => ⟨hpos, ?_⟩, fun hne => absurd hd hne,
      ⟨by simp [hd, DState.num], by simp [hd]⟩, hcredit⟩
    simp only [List.length_append, List.length_cons, List.length_nil]
    omega
  | dispatched hp _ =>
    have hnum := num_of_completes hp
    exact ⟨.inr (hclear (by omega)), by simp [State.payloadOpen, State.delivered], fun _ => rfl,
      ⟨fun _ => ⟨rfl, rfl⟩, fun _ => rfl⟩, responseCredit_nonneg hcredit⟩

theorem ByteEffect.keeps_bounds (heff : ByteEffect b s t) (h : s.bounded) : t.bounded ∧ t.params = s.params := by
  obtain ⟨hlegal, hfits, hcap⟩ := h
  cases heff with
  | matched | code | lengthLow | lengthHigh | payload => exact ⟨⟨hlegal, hfits, hcap⟩, rfl⟩
  | locked => exact ⟨⟨hlegal, hfits, fun n hn => Nat.zero_lt_of_lt (hcap n hn)⟩, rfl⟩
  | skipped he hb =>
    rw [skipByte_eq]
    split
    · exact ⟨⟨hlegal, hfits, fun n hn => Nat.zero_lt_of_lt (hcap n hn)⟩, rfl⟩
    · next hne =>
      refine ⟨⟨hlegal, hfits, fun n hn => ?_⟩, rfl⟩
      have hlt := hcap n hn
      have hfull : n ≠ s.skip.length + 1 := fun h => hne (h ▸ hn)
      simp only [List.length_append, List.length_cons, List.length_nil]
      omega
  | @dispatched p _ hfit =>
    refine ⟨⟨hlegal, ?_, hcap⟩, rfl⟩
    cases hv : responseCredit s.cmd p s.credit with
    | none => exact hfits
    | some v => exact hfit v hv

/-- A received byte either skips or goes on, reporting at most skipped bytes, or dispatches a frame. -/
theorem ByteEffect.skips_or_dispatches (heff : ByteEffect b s t) :
    (t.credit = s.credit ∧ ∃ bs, t.events = s.events ++ skippedEvent bs) ∨
    ∃ p, s.completes b p ∧ (∀ v ∈ responseCredit s.cmd p s.credit, s.params.creditFits v = true) ∧
      t = s.delivered s.cmd p (responseCredit s.cmd p s.credit) := by
  have quiet : ∃ bs, s.events = s.events ++ skippedEvent bs := ⟨[], by simp [skippedEvent]⟩
  cases heff with
  | matched | code | lengthLow | lengthHigh | payload => exact .inl ⟨rfl, quiet⟩
  | locked => exact .inl ⟨rfl, s.skip, rfl⟩
  | skipped he hb =>
    rw [skipByte_eq]
    split
    · exact .inl ⟨rfl, s.skip ++ [b], by simp [skippedEvent]⟩
    · exact .inl ⟨rfl, quiet⟩
  | dispatched hp hfit => exact .inr ⟨_, hp, hfit, rfl⟩

/-- A dispatch that changes the credit is that of a well-formed VERSION or WINDOW_UPDATE, and the credit fits. -/
theorem ByteEffect.credit_changed (heff : ByteEffect b s t) (hne : t.credit ≠ s.credit) :
    s.params.creditFits t.credit = true ∧
      ((∃ p, p.length = 8 ∧ t.events = s.events ++ [.frame 0x08 p .ok]) ∨
        (∃ p, p.length = 4 ∧ t.events = s.events ++ [.frame 0x09 p .ok])) := by
  obtain ⟨hsame, -⟩ | ⟨p, -, hfit, rfl⟩ := heff.skips_or_dispatches
  · exact absurd hsame hne
  cases hv : responseCredit s.cmd p s.credit with
  | none => simp [State.delivered, hv] at hne
  | some v =>
    refine ⟨hfit v hv, ?_⟩
    obtain ⟨hc, hlen, -, -⟩ | ⟨hc, b0, b1, b2, b3, rfl, -⟩ := responseCredit_eq_some hv
    · exact .inl ⟨p, hlen, by rw [State.delivered, hc, hlen]; rfl⟩
    · exact .inr ⟨_, rfl, by rw [State.delivered, hc]; rfl⟩

/-! ### Events -/

theorem skippedEvent_eq_nil_or_singleton (bs : List Byte) :
    skippedEvent bs = [] ∨ skippedEvent bs = [.skipped bs] := by
  unfold skippedEvent
  split
  · exact .inl rfl
  · exact .inr rfl

theorem skippedEvent_eq_singleton {bs : List Byte} {e : Event} (h : skippedEvent bs = [e]) :
    e = .skipped bs ∧ bs ≠ [] := by
  unfold skippedEvent at h
  split at h
  · cases h
  · next hne => exact ⟨(List.singleton_inj.mp h).symm, hne⟩

end

/-! ### What a step reports -/

/-- A step that appends an event is an RX turn whose byte has the effect that reports it. -/
theorem received_of_events {s t : State} (h : step s = .next t) (hne : t.events ≠ s.events) :
    ∃ ts b bs, s.schedule = .rx :: ts ∧ s.rxIn = b :: bs ∧
      ByteEffect b { s with schedule := ts, rxIn := bs } t := by
  cases step_effect h with
  | received hsched hin _ _ heff => exact ⟨_, _, _, hsched, hin, heff⟩
  | idle | rejected | sent | withdrawn | shutDown | reset => exact absurd rfl hne

theorem events_ne_of_append {s t : State} {e : Event} (h : t.events = s.events ++ [e]) : t.events ≠ s.events := by
  simp [h]

/-- Settles O20: a byte reports skipped bytes or one frame, and no other step reports anything. -/
theorem stepEmitsAtMostOneEvent : Obligations.StepEmitsAtMostOneEvent := by
  intro s t h
  by_cases hne : t.events = s.events
  · exact .inl hne
  obtain ⟨ts, b, bs, -, -, heff⟩ := received_of_events h hne
  obtain ⟨-, skipped, hevents⟩ | ⟨p, -, -, rfl⟩ := heff.skips_or_dispatches
  · obtain hnil | hone := skippedEvent_eq_nil_or_singleton skipped
    · exact .inl (by rw [hevents, hnil, List.append_nil])
    · exact .inr ⟨_, by rw [hevents, hone]⟩
  · exact .inr ⟨_, rfl⟩

/-- Settles O21: with an unbounded buffer only the fourth sync byte flushes. -/
theorem skippedIsReportedOnlyOnRegainingSync : Obligations.SkippedIsReportedOnlyOnRegainingSync := by
  intro s t bs hcap h hevents
  obtain ⟨ts, b, rest, -, hin, heff⟩ := received_of_events h (events_ne_of_append hevents)
  cases heff with
  | matched | code | lengthLow | lengthHigh | payload => simp at hevents
  | locked hd hb =>
    obtain ⟨hskip, hne⟩ := skippedEvent_eq_singleton (List.append_cancel_left hevents)
    cases hskip
    exact ⟨hd, by rw [hin, hb]; rfl, rfl, hne, rfl, rfl⟩
  | skipped he hb =>
    simp [skipByte_of_unbounded, hcap] at hevents
  | dispatched => simp [State.delivered] at hevents

/-- Settles O32: only a dispatch reports a frame, and inside a frame nothing is skipped (R32 a). -/
theorem dispatchLeavesTheDecoderReset : Obligations.DispatchLeavesTheDecoderReset := by
  rintro s t c p cls ⟨hskip, -⟩ h hevents
  obtain ⟨ts, b, rest, -, -, heff⟩ := received_of_events h (events_ne_of_append hevents)
  obtain ⟨-, skipped, hskipped⟩ | ⟨q, hq, -, rfl⟩ := heff.skips_or_dispatches
  · rw [hevents] at hskipped
    obtain ⟨hframe, -⟩ := skippedEvent_eq_singleton (List.append_cancel_left hskipped).symm
    cases hframe
  · have hframe := List.singleton_inj.mp (List.append_cancel_left hevents)
    cases hframe
    have hclear := skip_of_skipClear hskip (Nat.le_trans (by decide) (num_of_completes hq))
    exact ⟨⟨rfl, rfl, rfl, rfl, hclear⟩, rfl⟩

/-! ### The invariants -/

/-- Settles O47: by `ByteEffect.keeps_inv` at a received byte, and by the gate at a sent frame (R188). -/
theorem everyStepKeepsTheInvariants : Obligations.EveryStepKeepsTheInvariants := by
  intro s t hinv h
  cases step_effect h with
  | received _ _ _ _ heff => exact heff.keeps_inv hinv
  | sent _ _ _ _ _ hc _ =>
    obtain ⟨hskip, hopen, hpbuf, hregs, -⟩ := hinv
    exact ⟨hskip, hopen, hpbuf, hregs, Int.sub_nonneg_of_le hc⟩
  | idle | rejected | withdrawn | shutDown => exact hinv
  | reset => exact inv_resetWith s.params

/-- Settles O48: by `ByteEffect.keeps_bounds`; a `SEND` and a `RESET` write a credit that fits. -/
theorem everyStepKeepsTheBounds : Obligations.EveryStepKeepsTheBounds := by
  intro s t hbounded h
  cases step_effect h with
  | received _ _ _ _ heff => exact heff.keeps_bounds hbounded
  | sent _ _ _ _ _ _ hfit =>
    obtain ⟨hlegal, -, hcap⟩ := hbounded
    exact ⟨⟨hlegal, hfit, hcap⟩, rfl⟩
  | idle | rejected | withdrawn | shutDown => exact ⟨hbounded, rfl⟩
  | reset =>
    obtain ⟨hlegal, -, -⟩ := hbounded
    exact ⟨bounded_resetWith hlegal, rfl⟩

theorem sentRequests_append (as : List Answer) (a : Answer) :
    sentRequests (as ++ [a]) = sentRequests as ++ if a.response = .sent then [a.request] else [] := by
  rw [sentRequests, List.filterMap_append]
  split_ifs with h <;> simp [sentRequests, h]

/-- Settles O49: a sent frame joins the stream and the sent requests alike, and a rejected request neither. -/
theorem everyStepKeepsTheTxStreamWhole : Obligations.EveryStepKeepsTheTxStreamWhole := by
  intro s t hwhole h
  cases step_effect h with
  | received _ _ _ hbyte =>
    obtain ⟨-, -, -, -, -, htx, hanswers⟩ := rxByte_keeps hbyte
    rwa [State.txWhole, htx, hanswers]
  | rejected =>
    rw [State.txWhole, State.respond_answers, sentRequests_append]
    simpa using hwhole
  | sent _ _ _ _ hp _ _ =>
    obtain ⟨hstream, hfits⟩ := hwhole
    simp only [State.txWhole, State.afterSend, sentRequests_append, if_true, List.flatMap_append, ← hstream]
    refine ⟨by simp, fun q hq => ?_⟩
    obtain hq | hq := List.mem_append.mp hq
    · exact hfits q hq
    · rwa [List.mem_singleton.mp hq]
  | idle | withdrawn | shutDown | reset => exact hwhole

/-! ### The gate and the host's list -/

/-- Settles O38: the only effect that writes is `sent`. -/
theorem gateNeverOverdraws : Obligations.GateNeverOverdraws := by
  intro s t h
  cases step_effect h with
  | received _ _ _ hbyte =>
    obtain ⟨-, -, -, -, -, htx, -⟩ := rxByte_keeps hbyte
    exact .inl htx
  | @sent k ts r _ hr _ _ _ hc _ =>
    simp only [← flen_cast]
    exact .inr ⟨r, List.mem_of_getElem? hr, rfl, hc, rfl, rfl⟩
  | idle | rejected | withdrawn | shutDown | reset => exact .inl rfl

/-- Settles O41: one case per effect. -/
theorem requestsAreAnsweredOrKept : Obligations.RequestsAreAnsweredOrKept := by
  intro s t h
  cases step_effect h with
  | received _ _ _ hbyte =>
    obtain ⟨-, -, -, hrequests, -, -, hanswers⟩ := rxByte_keeps hbyte
    exact .inl ⟨hrequests, hanswers⟩
  | rejected why hsched hr hheld => exact .inr (.inl ⟨_, _, _, by rw [hsched]; rfl, hr, hheld, rfl, rfl⟩)
  | sent hsched hr hheld => exact .inr (.inl ⟨_, _, _, by rw [hsched]; rfl, hr, hheld, rfl, rfl⟩)
  | withdrawn hsched => exact .inr (.inr ⟨_, by rw [hsched]; rfl, rfl, rfl⟩)
  | idle | shutDown | reset => exact .inl ⟨rfl, rfl⟩

/-! ### What a step refuses (42_flow_control.md R192) -/

/-- A refusal is always that of a credit which a finite register does not hold. -/
theorem refused_credit_unfit {s : State} {r : Refusal} (h : step s = .refused r) :
    ∃ v, s.params.creditFits v = false := by
  obtain ⟨ts, b, bs, -, -, hbyte⟩ | ⟨k, ts, q, -, -, hsend⟩ := step_eq_refused h
  · obtain ⟨-, -, p, -, v, -, hv⟩ := rxByte_eq_refused hbyte
    exact ⟨v, hv⟩
  · obtain ⟨-, -, -, hv, -⟩ := send_eq_refused.mp hsend
    exact ⟨_, hv⟩

/-- Settles O51: there is no fault, and an unbounded register refuses nothing. -/
theorem noStepStopsWithTheDefaultWidth : Obligations.NoStepStopsWithTheDefaultWidth := by
  intro s hw
  cases h : step s with
  | next t => exact ⟨t, rfl⟩
  | fault r => cases r
  | refused r =>
    obtain ⟨v, hv⟩ := refused_credit_unfit h
    rw [creditFits_of_unbounded hw] at hv
    cases hv

/-- Settles O52: a debit always fits, a VERSION's credit always fits, and four payload bytes end in `PAYLOAD`. -/
theorem onlyAnOverflowingWindowUpdateIsRefused : Obligations.OnlyAnOverflowingWindowUpdateIsRefused := by
  rintro s r - ⟨hlegal, hfits, -⟩ h
  obtain ⟨ts, b, bs, hsched, hin, hbyte⟩ | ⟨k, ts, q, -, -, hsend⟩ := step_eq_refused h
  · obtain ⟨hs, hr, p, hp, v, hv, hunfit⟩ := rxByte_eq_refused hbyte
    obtain ⟨-, -, hnonneg, hlt⟩ | ⟨hc, b0, b1, b2, b3, rfl, rfl⟩ := responseCredit_eq_some hv
    · exact absurd (hunfit.symm.trans (creditFits_field hlegal hnonneg hlt)) (by simp)
    obtain ⟨-, -, hnil⟩ | ⟨hd, hlen, hpay⟩ := hp
    · cases hnil
    obtain ⟨hpbuf, hlast⟩ := List.append_inj' (show [b0, b1, b2] ++ [b3] = s.pbuf ++ [b] from hpay) rfl
    cases hlast
    have hlen4 : s.len = 4 := BitVec.eq_of_toNat_eq (hlen.symm.trans (by rw [← hpbuf]; rfl))
    have hwidth : s.params.creditW ≠ none := fun hw =>
      absurd (hunfit.symm.trans (creditFits_of_unbounded hw _)) (by simp)
    exact ⟨hr, by rw [hsched]; rfl, hs, hd, hc, hlen4, hwidth, b, bs, b0, b1, b2, hin, hpbuf.symm, hunfit⟩
  · obtain ⟨-, -, hcovered, hunfit, -⟩ := send_eq_refused.mp hsend
    have hfit := creditFits_down hfits (Int.sub_nonneg_of_le hcovered) (by simp)
    exact absurd (hunfit.symm.trans hfit) (by simp)

/-! ### What changes the credit, and shutdown -/

/-- Settles O53: by `ByteEffect.credit_changed`; a sent frame is not empty. -/
theorem onlyFourEventsWriteTheCredit : Obligations.OnlyFourEventsWriteTheCredit := by
  intro s t h hne
  cases step_effect h with
  | received _ _ _ _ heff =>
    obtain ⟨-, hevent⟩ := heff.credit_changed hne
    exact .inr (.inr hevent)
  | sent =>
    refine .inr (.inl fun htx => ?_)
    have hempty : frameBytes _ _ = [] := List.append_right_eq_self.mp htx
    cases hempty
  | reset hsched => exact .inl (by rw [hsched]; rfl)
  | idle | rejected | withdrawn | shutDown => exact absurd rfl hne

/-- A TX turn under shutdown answers its request at once (41_encoder.md R152, 60_exceptions.md R248). -/
theorem step_of_presented_shutdown {s : State} {k : Nat} {ts : List Turn} {r : Request} (hs : s.shutdown = true)
    (hsched : s.schedule = .tx k :: ts) (hr : s.requests[k]? = some r) :
    step s = .next (({ s with schedule := ts, requests := s.requests.eraseIdx k } : State).respond r.code r.payload
      (.rejected .shutDown)) := by
  rw [step_of_presented hsched hr ((sendHeld_eq_false_iff _ _).mpr (.inl hs)), sendRequest_eq]
  exact send_of_shutdown hs

/-- Settles O54: under shutdown no byte is received and no frame is sent. -/
theorem onlyResetLeavesShutdown : Obligations.OnlyResetLeavesShutdown := by
  intro s t hs hreset h
  have hanswer : ∀ k r, s.schedule.head? = some (.tx k) → s.requests[k]? = some r →
      t.answers = s.answers ++ [⟨r, .rejected .shutDown⟩] ∧ t.requests = s.requests.eraseIdx k := by
    intro k r hhead hr
    obtain ⟨ts, hsched⟩ := List.head?_eq_some_iff.mp hhead
    rw [step_of_presented_shutdown hs hsched hr, next_eq_next] at h
    rw [h]
    exact ⟨rfl, rfl⟩
  cases step_effect h with
  | received _ _ hup => exact absurd (hs.symm.trans hup) (by simp)
  | sent _ _ _ hup => exact absurd (hs.symm.trans hup) (by simp)
  | reset hsched => exact absurd (by rw [hsched]; rfl) hreset
  | idle | rejected | withdrawn => exact ⟨hs, rfl, rfl, rfl, rfl, rfl, rfl, rfl, rfl, rfl, hanswer⟩
  | shutDown => exact ⟨rfl, rfl, rfl, rfl, rfl, rfl, rfl, rfl, rfl, rfl, hanswer⟩

/-- Settles O55: one case per effect; a received byte is `rxByte_keeps`. -/
theorem pathsShareOnlyCreditAndShutdown : Obligations.PathsShareOnlyCreditAndShutdown := by
  intro s t h
  cases step_effect h with
  | idle => exact ⟨fun _ => ⟨rfl, rfl, rfl, rfl, rfl, rfl, rfl, rfl, rfl⟩, fun _ => ⟨rfl, rfl, rfl, rfl, rfl⟩⟩
  | received hsched _ _ hbyte =>
    obtain ⟨hdown, hparams, -, hrequests, -, htx, hanswers⟩ := rxByte_keeps hbyte
    exact ⟨fun ⟨k, hk⟩ => by simp [hsched] at hk, fun _ => ⟨htx, hanswers, hrequests, hdown, hparams⟩⟩
  | rejected _ hsched | sent hsched | withdrawn hsched =>
    exact ⟨fun _ => ⟨rfl, rfl, rfl, rfl, rfl, rfl, rfl, rfl, rfl⟩, fun hrx => by simp [hsched] at hrx⟩
  | shutDown hsched | reset hsched =>
    exact ⟨fun ⟨k, hk⟩ => by simp [hsched] at hk, fun hrx => by simp [hsched] at hrx⟩

end Sys2Proof.Machine
end

section
/-! PROOFS. What lifts a hold (42_flow_control.md R183), and the two accounts over runs: the credit (42_flow_control.md R190)
and the received bytes (60_exceptions.md R247). -/

namespace Sys2Proof.Machine

/-! ### A held request -/

theorem mem_eraseIdx_of_getElem?_ne {r : Request} {l : List Request} {k : Nat} (h : r ∈ l) (hk : l[k]? ≠ some r) :
    r ∈ l.eraseIdx k := by
  obtain ⟨i, hi⟩ := List.mem_iff_getElem?.mp h
  exact List.mem_eraseIdx_iff_getElem?.mpr ⟨i, fun hik => hk (hik ▸ hi), hi⟩

/-- A held request is still held while shutdown is not requested and the credit does not grow. -/
theorem sendHeld_of_credit_le {q : List Byte} {s t : State} (h : sendHeld q s = true) (hs : t.shutdown = s.shutdown)
    (hc : t.credit ≤ s.credit) : sendHeld q t = true := by
  obtain ⟨hup, hp, hlt⟩ := (sendHeld_iff q s).mp h
  exact (sendHeld_iff q t).mpr ⟨hs.trans hup, hp, by omega⟩

/-- The dispatch of a well-formed VERSION or WINDOW_UPDATE, as the events show it. -/
def State.creditReceived (s t : State) : Prop :=
  ∃ p, p.length = 8 ∧ t.events = s.events ++ [.frame 0x08 p .ok] ∨
    p.length = 4 ∧ t.events = s.events ++ [.frame 0x09 p .ok]

/-- What can lift a hold: shutdown, or a credit that fits and covers the frame, received or reset. -/
theorem hold_lifted {q : List Byte} {s t : State} (hlegal : s.params.legal = true) (hheld : sendHeld q s = true)
    (h : step s = .next t) (hlift : sendHeld q t = false) :
    (s.schedule.head? = some .shutdownReq ∧ t.shutdown = true) ∨
    (s.schedule.head? ≠ some .shutdownReq ∧ t.shutdown = false ∧ (flen q : Int) ≤ t.credit ∧
      t.params.creditFits t.credit = true ∧
      (s.creditReceived t ∨ s.schedule.head? = some .reset ∧ t.credit = s.params.initCredit)) := by
  obtain ⟨hup, hp, hlt⟩ := (sendHeld_iff q s).mp hheld
  have covered : t.shutdown = false → (flen q : Int) ≤ t.credit := fun ht => by
    obtain hdown | hlong | hc := (sendHeld_eq_false_iff q t).mp hlift
    · exact absurd (hdown.symm.trans ht) (by simp)
    · exact absurd (hlong.symm.trans hp) (by simp)
    · exact hc
  have kept : t.shutdown = s.shutdown → t.credit ≤ s.credit → False := fun ht hc =>
    absurd (hlift.symm.trans (sendHeld_of_credit_le hheld ht hc)) (by simp)
  cases step_effect h with
  | received hsched _ _ hbyte heff =>
    obtain ⟨hdown, hparams, -⟩ := rxByte_keeps hbyte
    have hc := covered (hdown.trans hup)
    obtain ⟨hfit, hevent⟩ := heff.credit_changed (ne_of_gt (lt_of_lt_of_le hlt hc))
    refine .inr ⟨by simp [hsched], hdown.trans hup, hc, by rwa [hparams], .inl ?_⟩
    obtain ⟨p, hversion⟩ | ⟨p, hupdate⟩ := hevent
    · exact ⟨p, .inl hversion⟩
    · exact ⟨p, .inr hupdate⟩
  | sent => exact (kept rfl (Int.sub_le_self _ (Int.natCast_nonneg _))).elim
  | shutDown hsched => exact .inl ⟨by rw [hsched]; rfl, rfl⟩
  | reset hsched =>
    obtain ⟨-, -, hfit⟩ := (legal_iff _).mp hlegal
    exact .inr ⟨by simp [hsched], rfl, covered rfl, hfit, .inr ⟨by rw [hsched]; rfl, rfl⟩⟩
  | idle | rejected | withdrawn => exact (kept rfl (Int.le_refl _)).elim

/-- Settles O60: `hold_lifted` in one direction, the three causes in the other; the host's list is O41. -/
theorem holdIsLiftedOnlyByCreditShutdownOrReset : Obligations.HoldIsLiftedOnlyByCreditShutdownOrReset := by
  intro s t r hlegal hheld h
  obtain ⟨hup, hp, -⟩ := (sendHeld_iff r.payload s).mp hheld
  refine ⟨⟨fun hlift => ?_, ?_⟩, fun hlift => ?_, fun hmem hkept => ?_⟩
  · rw [← flen_cast]
    obtain ⟨hhead, -⟩ | ⟨-, -, hc, -, ⟨p, hevent⟩ | ⟨hhead, hcredit⟩⟩ := hold_lifted hlegal hheld h hlift
    · exact .inr (.inl hhead)
    · exact .inl ⟨p, hevent, hc⟩
    · rw [hcredit, flen_cast] at hc
      exact .inr (.inr ⟨hhead, by exact_mod_cast hc⟩)
  · rintro (⟨p, -, hc⟩ | hhead | ⟨hhead, hc⟩)
    · exact (sendHeld_eq_false_iff _ _).mpr (.inr (.inr (by rwa [flen_cast])))
    · obtain ⟨ts, hsched⟩ := List.head?_eq_some_iff.mp hhead
      rw [step_of_shutdownReq hsched, next_eq_next] at h
      exact (sendHeld_eq_false_iff _ _).mpr (.inl (by rw [h]))
    · obtain ⟨ts, hsched⟩ := List.head?_eq_some_iff.mp hhead
      rw [step_of_reset hsched, next_eq_next] at h
      have hcovered : (flen r.payload : Int) ≤ (s.params.initCredit : Int) := by
        rw [flen_cast]
        exact_mod_cast hc
      exact (sendHeld_eq_false_iff _ _).mpr (.inr (.inr (by rw [h]; exact hcovered)))
  · rw [sendRequest_eq]
    obtain ⟨hhead, hdown⟩ | ⟨hhead, ht, hc, hfit, -⟩ := hold_lifted hlegal hheld h hlift
    · exact ⟨_, send_of_shutdown hdown, by rw [if_pos hhead]; rfl⟩
    · exact ⟨_, send_of_covered ht hp hc hfit, by rw [if_neg hhead]; rfl⟩
  · obtain ⟨hsame, -⟩ | ⟨k, q, resp, -, hq, hfree, herase, -⟩ | ⟨k, hhead, herase, -⟩ :=
      requestsAreAnsweredOrKept s t h
    · rwa [hsame]
    · rw [herase]
      refine mem_eraseIdx_of_getElem?_ne hmem fun hr => ?_
      cases hq.symm.trans hr
      exact absurd (hheld.symm.trans hfree) (by simp)
    · rw [herase]
      exact mem_eraseIdx_of_getElem?_ne hmem (hkept k hhead)

/-! ### Runs without `RESET` -/

theorem runSteps_succ {k : Nat} {s t : State} (h : runSteps (k + 1) s = .next t) :
    ∃ u, step s = .next u ∧ runSteps k u = .next t := by
  simp only [runSteps, Host.Core.run] at h
  split at h
  · next u hu => exact ⟨u, hu, h⟩
  · next r _ => cases r
  · cases h

/-- Every step spends the first turn of the schedule. -/
theorem step_schedule {s t : State} (h : step s = .next t) : t.schedule = s.schedule.tail := by
  cases step_effect h with
  | idle => rfl
  | received hsched _ _ hbyte =>
    obtain ⟨-, -, -, -, hschedule, -⟩ := rxByte_keeps hbyte
    rw [hschedule, hsched, List.tail_cons]
  | rejected _ hsched | sent hsched | withdrawn hsched | shutDown hsched | reset hsched =>
    exact (congrArg List.tail hsched).symm

/-- A reflexive and transitive relation that every step but `RESET` keeps holds over every run without `RESET`. -/
theorem run_relates {R : State → State → Prop} (hrefl : ∀ s, R s s) (htrans : ∀ s u t, R s u → R u t → R s t)
    (hstep : ∀ s t, step s = .next t → s.schedule.head? ≠ some .reset → R s t) :
    ∀ (k : Nat) (s t : State), runSteps k s = .next t → .reset ∉ s.schedule.take k → R s t := by
  intro k
  induction k with
  | zero =>
    intro s t h _
    rw [next_eq_next.mp h]
    exact hrefl s
  | succ k ih =>
    intro s t h hno
    obtain ⟨u, hu, hrun⟩ := runSteps_succ h
    have hrest := step_schedule hu
    cases hsched : s.schedule with
    | nil =>
      rw [hsched, List.tail_nil] at hrest
      exact htrans s u t (hstep s u hu (by simp [hsched])) (ih u t hrun (by simp [hrest]))
    | cons turn ts =>
      rw [hsched, List.tail_cons] at hrest
      rw [hsched, List.take_succ_cons, List.mem_cons, not_or] at hno
      obtain ⟨hhead, htail⟩ := hno
      exact htrans s u t (hstep s u hu (by simpa [hsched, eq_comm] using hhead)) (ih u t hrun (by rwa [hrest]))

/-! ### The credit account (42_flow_control.md R190) -/

/-- Between two states the credit grew by what the new events grant and fell by the bytes written, unless a VERSION
set a new base. -/
def State.creditBalance (s t : State) : Prop :=
  ∃ evs out, t.events = s.events ++ evs ∧ t.txOut = s.txOut ++ out ∧
    ((∀ e ∈ evs, e.setsBase = false) →
      t.credit = s.credit + ((evs.map Event.grant).sum : Nat) - (out.length : Nat))

theorem creditBalance_of_unchanged {s t : State} (hevents : t.events = s.events) (htx : t.txOut = s.txOut)
    (hcredit : t.credit = s.credit) : s.creditBalance t :=
  ⟨[], [], by simp [hevents], by simp [htx], by simp [hcredit]⟩

theorem creditBalance_trans {s u t : State} (hsu : s.creditBalance u) (hut : u.creditBalance t) :
    s.creditBalance t := by
  obtain ⟨evs, out, hevs, hout, hcredit⟩ := hsu
  obtain ⟨evs', out', hevs', hout', hcredit'⟩ := hut
  refine ⟨evs ++ evs', out ++ out', by rw [hevs', hevs, List.append_assoc], by rw [hout', hout, List.append_assoc],
    fun hbase => ?_⟩
  obtain ⟨hbase, hbase'⟩ := List.forall_mem_append.mp hbase
  rw [hcredit' hbase', hcredit hbase, List.map_append, List.sum_append, List.length_append]
  push_cast
  omega

/-- A dispatched frame that sets no new base changes the credit by what its event grants. -/
theorem responseCredit_of_setsBase_eq_false {c : Byte} {p : List Byte} (credit : Int)
    (h : (Event.frame c p (classify c p.length)).setsBase = false) :
    (responseCredit c p credit).getD credit =
      credit + ((Event.frame c p (classify c p.length)).grant : Nat) := by
  by_cases hversion : c = 0x08 ∧ p.length = 8
  · obtain ⟨rfl, hp⟩ := hversion
    rw [hp] at h
    simp [Event.setsBase, classify, knownCodes] at h
  by_cases hupdate : c = 0x09 ∧ p.length = 4
  · obtain ⟨rfl, hp⟩ := hupdate
    match p, hp with
    | [_, _, _, _], _ => rfl
  have hgrant : (Event.frame c p (classify c p.length)).grant = 0 := by
    refine if_neg fun ⟨hc, hok⟩ => ?_
    rw [classify_of_malformed (.inr ⟨hc, fun hp => hupdate ⟨hc, hp⟩⟩)] at hok
    cases hok
  rw [responseCredit_eq_none hversion hupdate, hgrant]
  simp

theorem ByteEffect.creditBalance {b : Byte} {s t : State} (heff : ByteEffect b s t) (htx : t.txOut = s.txOut) :
    s.creditBalance t := by
  obtain ⟨hcredit, skipped, hevents⟩ | ⟨p, -, -, rfl⟩ := heff.skips_or_dispatches
  · refine ⟨_, [], hevents, by simp [htx], fun _ => ?_⟩
    obtain hnil | hone := skippedEvent_eq_nil_or_singleton skipped
    · simp [hcredit, hnil]
    · simp [hcredit, hone, Event.grant]
  · refine ⟨[_], [], rfl, by simp [htx], fun hbase => ?_⟩
    simpa [State.delivered] using responseCredit_of_setsBase_eq_false s.credit (hbase _ (List.mem_singleton_self _))

theorem step_creditBalance {s t : State} (h : step s = .next t) (hreset : s.schedule.head? ≠ some .reset) :
    s.creditBalance t := by
  cases step_effect h with
  | received _ _ _ hbyte heff =>
    obtain ⟨-, -, -, -, -, htx, -⟩ := rxByte_keeps hbyte
    exact heff.creditBalance htx
  | sent => exact ⟨[], _, by simp [State.afterSend], rfl, fun _ => by simp [State.afterSend]⟩
  | reset hsched => exact absurd (by rw [hsched]; rfl) hreset
  | idle | rejected | withdrawn | shutDown => exact creditBalance_of_unchanged rfl rfl rfl

/-- Settles O57: every step but `RESET` keeps the balance, which adds up over runs. -/
theorem creditAccountBalancesOverRuns : Obligations.CreditAccountBalancesOverRuns :=
  run_relates (R := State.creditBalance) (fun _ => creditBalance_of_unchanged rfl rfl rfl)
    (fun _ _ _ => creditBalance_trans) (fun _ _ => step_creditBalance)

/-! ### The account of received bytes (60_exceptions.md R247) -/

/-- Before `PAYLOAD` the bytes in progress are the position in the header. -/
theorem inProgress_of_num_lt {s : State} (h : s.dstate.num < 7) : s.inProgress = s.dstate.num := by
  unfold State.inProgress
  split
  · next hd => simp [hd, DState.num] at h
  · rfl

theorem inProgress_of_payload {s : State} (h : s.dstate = .payload) : s.inProgress = 7 + s.pbuf.length := by
  rw [State.inProgress, h]

theorem skippedEvent_size (bs : List Byte) : ((skippedEvent bs).map Event.size).sum = bs.length := by
  unfold skippedEvent
  split
  · next h => simp [h]
  · simp [Event.size]

/-- A byte that completes a frame is the frame's last one. -/
theorem inProgress_of_completes {s : State} {b : Byte} {p : List Byte} (h : s.completes b p) :
    s.inProgress + 1 = flen p := by
  obtain ⟨hd, -, rfl⟩ | ⟨hd, -, rfl⟩ := h
  · rw [inProgress_of_num_lt (by simp [hd, DState.num]), hd]
    rfl
  · rw [inProgress_of_payload hd]
    simp [flen, Config.hdrLen]
    omega

/-- A byte is accounted for once when what is skipped, in progress and newly reported grows by one. -/
theorem rxAccount_succ {s t : State} (evs : List Event) (hin : t.rxIn = s.rxIn) (hevents : t.events = s.events ++ evs)
    (hone : t.skip.length + t.inProgress + (evs.map Event.size).sum = s.skip.length + s.inProgress + 1) :
    t.rxAccount = s.rxAccount + 1 := by
  rw [State.rxAccount, State.rxAccount, hin, hevents, List.map_append, List.sum_append]
  omega

/-- A header byte moves the position by one and touches nothing else of the account. -/
theorem rxAccount_of_header {s t : State} (hin : t.rxIn = s.rxIn) (hevents : t.events = s.events)
    (hskip : t.skip = s.skip) (ht : t.dstate.num < 7) (hnum : t.dstate.num = s.dstate.num + 1) :
    t.rxAccount = s.rxAccount + 1 := by
  refine rxAccount_succ [] hin (by simp [hevents]) ?_
  rw [hskip, inProgress_of_num_lt ht, inProgress_of_num_lt (by omega), hnum, List.map_nil, List.sum_nil]
  omega

theorem ByteEffect.rxAccount {b : Byte} {s t : State} (heff : ByteEffect b s t) :
    t.rxAccount = s.rxAccount + 1 := by
  cases heff with
  | @matched n he hn =>
    obtain ⟨hlt, hnext⟩ := num_of_expects he
    exact rxAccount_of_header rfl rfl rfl (show n.num < 7 by omega) hnext
  | locked hd _ =>
    refine rxAccount_succ _ rfl rfl ?_
    have hbefore : s.inProgress = 3 := by
      rw [inProgress_of_num_lt (by simp [hd, DState.num]), hd]
      rfl
    have hafter : s.locked.inProgress = 4 := rfl
    rw [skippedEvent_size, hbefore, hafter]
    simp [State.locked]
    omega
  | skipped he hb =>
    have hsame : (s.skipByte b).inProgress = s.inProgress := by simp [State.inProgress]
    rw [skipByte_eq] at hsame ⊢
    split at hsame
    · next hfull =>
      rw [if_pos hfull]
      refine rxAccount_succ [_] rfl rfl ?_
      rw [hsame]
      simp [Event.size]
      omega
    · next hfull =>
      rw [if_neg hfull]
      refine rxAccount_succ [] rfl (by simp) ?_
      rw [hsame]
      simp
      omega
  | code hd => exact rxAccount_of_header rfl rfl rfl (by simp [DState.num]) (by simp [hd, DState.num])
  | lengthLow hd => exact rxAccount_of_header rfl rfl rfl (by simp [DState.num]) (by simp [hd, DState.num])
  | lengthHigh hd _ =>
    refine rxAccount_succ [] rfl (by simp) ?_
    rw [inProgress_of_payload rfl, inProgress_of_num_lt (by simp [hd, DState.num]), hd]
    simp [DState.num]
  | payload hd _ =>
    refine rxAccount_succ [] rfl (by simp) ?_
    rw [inProgress_of_payload hd, inProgress_of_payload (by exact hd)]
    simp
    omega
  | dispatched hp _ =>
    refine rxAccount_succ [_] rfl rfl ?_
    rw [Nat.add_assoc _ s.inProgress, inProgress_of_completes hp]
    simp [State.delivered, State.inProgress, DState.num, Event.size]

theorem step_rxAccount {s t : State} (h : step s = .next t) (hreset : s.schedule.head? ≠ some .reset) :
    t.rxAccount = s.rxAccount := by
  cases step_effect h with
  | received _ hin _ _ heff =>
    rw [heff.rxAccount, State.rxAccount, State.rxAccount, hin, List.length_cons]
    simp only [State.inProgress]
    omega
  | reset hsched => exact absurd (by rw [hsched]; rfl) hreset
  | idle | rejected | sent | withdrawn | shutDown => rfl

/-- Settles O58: every step but `RESET` keeps the account. -/
theorem everyRxByteIsAccountedForOverRuns : Obligations.EveryRxByteIsAccountedForOverRuns :=
  run_relates (R := fun s t => t.rxAccount = s.rxAccount) (fun _ => rfl) (fun _ _ _ hsu hut => hut.trans hsu)
    (fun _ _ => step_rxAccount)

end Sys2Proof.Machine
end
